-- ==== Sys2Proof/Word.lean ====
section
/-! DEFINITION. The words of the 2480: the widths that the manual gives names to. -/

namespace Sys2Proof

/-- One byte of a transaction or of the Shared Work Area. -/
abbrev Byte := BitVec 8

/-- A dword: four bytes (00_scope.md, section 4). -/
abbrev Dword := BitVec 32

/-- A value of NOW, in microseconds modulo 2^32 (R43). -/
abbrev Tick := BitVec 32

/-- The number of a slot, 0 to 7: slot s is the slot on port SPs (00_scope.md, section 5). -/
abbrev SlotId := Fin 8

end Sys2Proof
end

