-- ==== Sys2Proof/Syntax.lean ====
section
/-! DEFINITION. The commands of the 2480: one constructor of `Instr` for each row of spec/opcode_table.json, with the
transaction fields the controller acts on (R2 to R5). -/

namespace Sys2Proof

/-- The form of a configuration request (R3): addressed to a function on the link it arrives on, or to a bus beyond. -/
inductive RequestForm where
  | localForm
  | routedForm
  deriving DecidableEq, Repr

/-- The fields of a MEM_READ or MEM_WRITE (R2); `length` is in dwords, 1 to 1,024. `others` is one number that stands for
the request's other attributes, which go on as they came (R87) and on which nothing acts (DESIGN CHOICE, log 33). -/
structure MemRequest where
  requesterId : BitVec 16
  tag : BitVec 10
  address : BitVec 64
  length : Nat
  firstEnables : BitVec 4
  lastEnables : BitVec 4
  others : Nat
  deriving DecidableEq, Repr

/-- The fields of a CFG_READ or CFG_WRITE (R3), less the data of a write. No rule gives the widths of the device and function
numbers: 5 and 3 bits are those of ordinary PCI Express (PRESUMED, log 20). -/
structure CfgRequest where
  requesterId : BitVec 16
  tag : BitVec 10
  form : RequestForm
  bus : BitVec 8
  device : BitVec 5
  function : BitVec 3
  offset : BitVec 10
  enables : BitVec 4
  deriving DecidableEq, Repr

/-- A recognised non-posted request (R1). -/
inductive NonPosted where
  | memRead (r : MemRequest)
  | cfgRead (r : CfgRequest)
  | cfgWrite (r : CfgRequest) (data : Dword)
  deriving DecidableEq, Repr

/-- A non-posted request from the host: recognised, or unrecognised (R1, R6). -/
inductive HostRequest where
  | known (q : NonPosted)
  | unrecognised (requesterId : BitVec 16) (tag : BitVec 10)
  deriving DecidableEq, Repr

/-- The status of a completion (R4). -/
inductive CplStatus where
  | success
  | unsupported
  | abort
  | notReady
  deriving DecidableEq, Repr

/-- The fields of a completion (R4). No data is the empty list. -/
structure Completion where
  requesterId : BitVec 16
  tag : BitVec 10
  status : CplStatus
  byteCount : Nat
  lowerAddress : BitVec 7
  data : List Dword
  deriving DecidableEq, Repr

/-- The message class (R5). -/
inductive MessageClass where
  | errorFatal
  | errorNonFatal
  | errorCorrectable
  | other
  deriving DecidableEq, Repr

/-- The routing of a host message (R5). -/
inductive MessageRouting where
  | toBus (bus : BitVec 8)
  | broadcast
  | toController
  deriving DecidableEq, Repr

/-- A MESSAGE from the host (R5). -/
structure HostMessage where
  cls : MessageClass
  requesterId : BitVec 16
  routing : MessageRouting
  deriving DecidableEq, Repr

/-- A MESSAGE from a card (R5). -/
structure CardMessage where
  cls : MessageClass
  requesterId : BitVec 16
  deriving DecidableEq, Repr

/-- The level of the presence line, and the accepted level of the debouncer (R99). -/
inductive Presence where
  | absent
  | present
  deriving DecidableEq, Repr

/-- The bytes of a software write that fall in a slot's Order Cell (section 9.3): each named byte is written or not;
`other` says that one of the cell's unnamed bytes is written (DEDUCED, log 29). -/
structure CellWrite where
  owner : Option Byte
  code : Option Byte
  numberLow : Option Byte
  numberHigh : Option Byte
  priority : Option Byte
  other : Bool
  deriving DecidableEq, Repr

/-- A host write inside the controller's memory window: a byte offset from the start of the BAR and the bytes from there
on, those that are not enabled absent (R150). -/
structure WindowWrite where
  offset : Nat
  bytes : List (Option Byte)
  deriving DecidableEq, Repr

/-- The commands, one per row of spec/opcode_table.json, in the table's order. -/
inductive Instr where
  | powerOnReset
  | upstreamHotReset
  | upstreamLinkDown
  | hierarchyReset (applyToo : Bool)
  | applyDevice
  | attnWrite (enables : BitVec 4) (value : Dword)
  | attnEnableWrite (enables : BitVec 4) (value : Dword)
  | orderApply (slot : SlotId) (number : BitVec 16) (priority : Byte)
  | orderCapture (slot : SlotId) (number : BitVec 16) (priority : Byte)
  | orderFence (slot : SlotId) (number : BitVec 16) (priority : Byte)
  | orderRecover (slot : SlotId) (number : BitVec 16) (priority : Byte)
  | orderLift (slot : SlotId) (number : BitVec 16) (priority : Byte)
  | orderRetire (slot : SlotId) (number : BitVec 16) (priority : Byte)
  | orderReinstate (slot : SlotId) (number : BitVec 16) (priority : Byte)
  | orderUnknownCode (slot : SlotId) (code : Byte) (number : BitVec 16) (priority : Byte)
  | orderCellWrite (slot : SlotId) (write : CellWrite)
  | cancelCellWrite (slot : SlotId) (value : Byte)
  | cancelTaken (slot : SlotId)
  | incidentStateWrite (slot : SlotId) (record : Fin 8) (value : Byte)
  | swaWrite (write : WindowWrite)
  | hostMemRead (request : MemRequest)
  | hostMemWrite (request : MemRequest) (data : List Dword)
  | hostCfgRead (request : CfgRequest)
  | hostCfgWrite (request : CfgRequest) (data : Dword)
  | hostMessage (message : HostMessage)
  | hostUnrecognisedRequest (requesterId : BitVec 16) (tag : BitVec 10) (nonPosted : Bool)
  | hostCompletion (completion : Completion)
  | cardCompletion (slot : SlotId) (completion : Completion)
  | cardMemRead (slot : SlotId) (request : MemRequest)
  | cardMemWrite (slot : SlotId) (request : MemRequest) (data : List Dword)
  | cardMessage (slot : SlotId) (message : CardMessage)
  | cardConfigRequest (slot : SlotId) (requesterId : BitVec 16) (tag : BitVec 10) (nonPosted : Bool)
  | waitingHostRequestRetaken
  | cardReadHandover (slot : SlotId)
  | presenceSample (slot : SlotId) (reading : Presence)
  | linkUp (slot : SlotId)
  | linkLoss (slot : SlotId)
  | deadlineExpiry (slot : SlotId) (index : Fin 32)
  | heldItemExpiry (slot : SlotId) (position : Nat)
  | controllerEntryExpiry (slot : SlotId) (index : Fin 32)
  | progressWatchExpiry (slot : SlotId)
  | fenceTrigger (slot : SlotId)
  | graceExpiry (slot : SlotId)
  | returnLifetimeExpiry (slot : SlotId) (index : Fin 16)
  | earliestStartReached (slot : SlotId)
  | planGrant
  | holdTickExpiry
  | trainLimitExpiry
  | settleLimitExpiry
  | retryTickExpiry
  | delayTickExpiry
  | retryLimitExpiry
  | outboundBufferDrain (slot : SlotId) (count : Nat)
  deriving DecidableEq, Repr

end Sys2Proof
end

