-- ==== Sys2Proof/Decode.lean ====
section
/-! DEFINITION. The commands that a word spells by the bits of spec/opcode_table.json. -/

namespace Sys2Proof

/-- The command that the `nbits` bits `w` spell. No row of spec/opcode_table.json gives any bits (its "fields" are all
empty and no row has "fixed"): the commands are events and transactions, so that no word spells one (DEDUCED, log 5). -/
def decodeTableWord (_nbits _w : Nat) : Option Instr := none

end Sys2Proof
end

