-- ==== Sys2Proof/Config.lean ====
section
/-! DEFINITION. What the manual leaves to the part's configuration space and the values it leaves open: uninterpreted
constants, so that a proof holds whatever they are. -/

namespace Sys2Proof

/-- What the controller acts on in the management function's configuration space (00_scope.md, section 3): the 64 KiB
range the host assigned to the BAR (R8), the requester id (R10, R19, R87), the message interrupt capability (R169), and
the dwords of the rest of the space, which the manual does not lay out. The widths are PRESUMED (log 20). -/
structure ManagementFunction where
  bar : Option (BitVec 64)
  requesterId : BitVec 16
  msiEnabled : Bool
  msiAddress : BitVec 64
  msiData : Dword
  dwords : List (BitVec 10 × Dword)
  deriving DecidableEq, Repr, Inhabited

/-- The management function after power-on reset, and after the two link forms of the hierarchy reset (R165).
DESIGN CHOICE (log 3), unsafe: the manual gives no power-on values of the configuration space; no BAR is assigned, the
requester id is 0 and message interrupts are not enabled. -/
def ManagementFunction.powerOn : ManagementFunction :=
  { bar := none, requesterId := 0, msiEnabled := false, msiAddress := 0, msiData := 0, dwords := [] }

/-- The management function after a host CFG_WRITE that it serves (R8): bus, device and function number, dword offset,
byte enables and data of the write. A FREE VALUE (log 2): the manual does not lay the space out. -/
opaque Config.managementWrite :
  ManagementFunction → BitVec 8 → BitVec 5 → BitVec 3 → BitVec 10 → BitVec 4 → Dword → ManagementFunction

/-- The dword a host CFG_READ of the management function returns (R8), at a dword offset. A FREE VALUE (log 2). -/
opaque Config.managementRead : ManagementFunction → BitVec 10 → Dword

/-- The n-th byte of data that stands in a position the manual gives no content for. A FREE VALUE (log 1): a position of
a forwarded completion's data that holds no delivered byte and for which the card sent no byte (R30), and a position of
an answer from the BAR outside the bytes requested (R150). -/
opaque Config.freeByte : Nat → Byte

end Sys2Proof
end

