-- ==== Sys2Proof/Machine/State.lean ====
section
/-! DEFINITION. The state of the 2480, block by block as 00_scope.md, section 2.1 names them, as plain data, and its value
after power-on reset. -/

namespace Sys2Proof.Machine

open Sys2Proof

/-- The ways a command can stop the machine with a fault: none. The manual describes no event that stops the
controller, so the type has no constructor and no meaning can answer a fault. -/
inductive Fault where
  deriving DecidableEq, Repr

/-- The ways a command can be refused. -/
inductive Refusal where
  /-- Raised by `exec`'s own arm for a command that has no meaning yet. Safe: nothing follows from a refused step.
  No arm raises it: every command has its meaning. -/
  | notModelled (mnemonic : String)
  deriving DecidableEq, Repr

/-! ### Settings (section 9.3, R160 to R164) -/

/-- The settings of a slot, each in the width of its cell (section 9.3, Slot Settings). The same record holds the cells
and the settings in force. -/
structure SlotSettings where
  windowBase : BitVec 64
  windowLimit : BitVec 64
  busFirst : Byte
  busLast : Byte
  windowReadUs : BitVec 16
  windowConfigUs : BitVec 16
  paceNs : Byte
  stretch : Byte
  watchPeriod : Byte
  timeoutAction : Byte
  timeoutTolerance : Byte
  standinMode : Byte
  fenceOnFatal : Byte
  autoRecover : Byte
  priority : Byte
  attemptLimit : Byte
  holdMs : Byte
  graceUs : BitVec 16
  trainLimitMs : BitVec 16
  settleLimitMs : BitVec 16
  settleRetryUs : BitVec 16
  deriving DecidableEq, Repr

/-- The power-on defaults of the Slot Settings (section 9.3, R164). -/
def SlotSettings.default : SlotSettings :=
  { windowBase := 0xFFFFFFFFFFFFF000, windowLimit := 0, busFirst := 255, busLast := 0, windowReadUs := 2000,
    windowConfigUs := 10000, paceNs := 16, stretch := 0, watchPeriod := 16, timeoutAction := 0, timeoutTolerance := 1,
    standinMode := 0, fenceOnFatal := 1, autoRecover := 0, priority := 0, attemptLimit := 3, holdMs := 10,
    graceUs := 100, trainLimitMs := 100, settleLimitMs := 1000, settleRetryUs := 1000 }

/-- The Device Settings (section 9.3, R163). -/
structure DeviceSettings where
  ceilingUs : Dword
  returnLimitMs : BitVec 16
  deriving DecidableEq, Repr

/-- The power-on defaults of the Device Settings (section 9.3, R164). -/
def DeviceSettings.default : DeviceSettings := { ceilingUs := 40000, returnLimitMs := 100 }

/-! ### Names of states, causes, levels and phases (section 9.3, Codes) -/

/-- The slot state (R61). -/
inductive SlotState where
  | empty
  | offline
  | active
  | fencing
  | fenced
  | recovering
  | retired
  deriving DecidableEq, Repr

/-- The fence cause (R61). -/
inductive FenceCause where
  | none
  | order
  | timeout
  | stall
  | linkDown
  | fatalMessage
  deriving DecidableEq, Repr

/-- The level of a recovery (R113). -/
inductive Level where
  | routine
  | urgent
  deriving DecidableEq, Repr

/-- The phase of a slot (R111); NONE unless it is RECOVERING. -/
inductive Phase where
  | none
  | queued
  | resetHold
  | training
  | settling
  | restoring
  deriving DecidableEq, Repr

/-- What is to become of a slot when a fence reaches FENCED (R61). -/
inductive FollowUp where
  | none
  | recover (level : Level)
  | retire
  deriving DecidableEq, Repr

/-- The codes of the orders (section 9.3). -/
inductive OrderCode where
  | apply
  | capture
  | fence
  | recover
  | lift
  | retire
  | reinstate
  deriving DecidableEq, Repr

/-- The outcome of an order in a Result Block (section 9.3). -/
inductive OrderOutcome where
  | none
  | done
  | already
  | partly
  | refusedCode
  | refusedState
  | refusedSettings
  | cancelled
  | failed
  | aborted
  deriving DecidableEq, Repr

/-- The reasons of Result Blocks and incidents (section 9.3); the reason of CARD_REMOVED is a slot state code. -/
inductive Reason where
  | none
  | cause (c : FenceCause)
  | upstream
  | held
  | controller
  | unanswered
  | partly
  | trainTimeout
  | settleTimeout
  | identityMismatch
  | restoreRejected
  | verifyMismatch
  | requestTimeout
  | linkLost
  | attemptsExhausted
  | wrongState
  | linkNotUp
  | cardRemoved
  | fenced
  | identityUnread
  | routingOverlap
  | routingLocked
  | unknownCode
  | slotState (st : SlotState)
  deriving DecidableEq, Repr

/-- The kinds of incidents (section 9.3, R170). -/
inductive IncidentKind where
  | requestTimeout
  | stall
  | linkDown
  | fatalMessage
  | cardPresent
  | cardRemoved
  | fenceComplete
  | attemptFailed
  | recovered
  | retired
  | overrunCompletion
  | returnExpired
  deriving DecidableEq, Repr

/-! ### Containment Unit (R61) -/

/-- The count of the settling of one fence (R61, R72). -/
structure FenceTally where
  start : Tick
  completions : Nat
  requests : Nat
  deriving DecidableEq, Repr

/-- A fence trigger that has been reported and not yet taken (R64), with the period of ACTIVE it was reported in (R65). -/
structure Trigger where
  cause : FenceCause
  period : Nat
  deriving DecidableEq, Repr

/-- The state of a slot's Containment Unit (R61). `triggers` lists the reported triggers, oldest first, and `period`
counts the times the slot became ACTIVE, which tells one period of ACTIVE from another (R65; DESIGN CHOICE, log 15). -/
structure Containment where
  st : SlotState
  cause : FenceCause
  grace : Option Tick
  followUp : FollowUp
  tally : FenceTally
  triggers : List Trigger
  period : Nat
  deriving DecidableEq, Repr

/-! ### Request Tracker (R18 to R24, R53, R55) -/

/-- The owners of controller requests (R18). -/
inductive RequestOwner where
  | capture
  | plan
  deriving DecidableEq, Repr

/-- The origin of an entry, with the fields that only that origin has (R18). -/
inductive Origin where
  | upstream (requesterId : BitVec 16) (tag : BitVec 10)
  | controller (owner : RequestOwner)
  deriving DecidableEq, Repr

/-- The kind of an entry, with the fields that only that kind has (R18). -/
inductive EntryKind where
  | memRead (firstByte : BitVec 64)
  | cfgRead (offset : BitVec 10) (primary : Bool)
  | cfgWrite (offset : BitVec 10) (primary : Bool) (data : Dword) (enables : BitVec 4)
  deriving DecidableEq, Repr

/-- The fields of an OPEN entry of the Outstanding Request Table (R18). `gathered` holds the bytes that completions have
already delivered to a controller read, of which R32 makes the value passed to the owner. -/
structure OrtBody where
  origin : Origin
  kind : EntryKind
  bytesRequested : Nat
  bytesOwed : Nat
  arrival : Tick
  deadline : Tick
  gathered : List Byte
  deriving DecidableEq, Repr

/-- An entry of the Outstanding Request Table (R18): FREE (no body) or OPEN, its generation kept in either case. -/
structure OrtEntry where
  gen : BitVec 3
  body : Option OrtBody
  deriving DecidableEq, Repr

/-- An item of the Hold Queue (R22): the fields an UPSTREAM entry would hold, and the request to be sent to the card. -/
structure HoldItem where
  body : OrtBody
  request : NonPosted
  deriving DecidableEq, Repr

/-- A configuration request of the controller's own (R24): a read, or a write with its data and byte enables. -/
structure ControllerRequest where
  owner : RequestOwner
  offset : BitVec 10
  write : Option (Dword × BitVec 4)
  deriving DecidableEq, Repr

/-- The Progress Watch (R55). -/
inductive Watch where
  | idle
  | armed (expiry : Tick)
  | expired
  deriving DecidableEq, Repr

/-- The state of a slot's Request Tracker: the ORT (R18), the Age List (R20), the Hold Queue (R22), the waiting
controller request (R24), the Progress Watch (R55) and the answered-timeout count (R53). -/
structure Tracker where
  ort : Vector OrtEntry 32
  age : List (Fin 32)
  hold : List HoldItem
  waiting : Option ControllerRequest
  watch : Watch
  answered : Nat
  deriving DecidableEq, Repr

/-! ### Return Map (R86) -/

/-- The fields of an OPEN Return Map entry (R86). -/
structure ReturnBody where
  requesterId : BitVec 16
  tag : BitVec 10
  bytesRequested : Nat
  bytesOwed : Nat
  expiry : Tick
  deriving DecidableEq, Repr

/-- A Return Map entry (R86). -/
structure ReturnEntry where
  gen : BitVec 3
  body : Option ReturnBody
  deriving DecidableEq, Repr

/-! ### Slot Port (R99, R104, R107, R108) -/

/-- The link state (R104). -/
inductive LinkState where
  | down
  | training
  | up
  deriving DecidableEq, Repr

/-- The reset line (R107). -/
inductive ResetLine where
  | released
  | asserted
  deriving DecidableEq, Repr

/-- What a Slot Port sends toward its card (R17). -/
inductive CardPacket where
  | request (q : NonPosted)
  | memWrite (r : MemRequest) (data : List Dword)
  | message (m : HostMessage)
  | completion (c : Completion)
  | answer (c : Completion)
  deriving DecidableEq, Repr

/-- The state of a Slot Port: the presence debouncer (R99; `sampleTimer` is the microseconds to the timer's next
expiry), the link and its up tick (R104), the reset line (R107), the epoch (R108), the outbound buffer (R17) and the card
MEM_READ that waits for a Return Map entry (R89), while which non-posted credits toward the card are withheld. The manual
gives the outbound buffer no size: the list has no bound (DESIGN CHOICE, log 34). -/
structure SlotPort where
  accepted : Presence
  runCount : Nat
  sampleTimer : Nat
  link : LinkState
  upTick : Tick
  line : ResetLine
  epoch : BitVec 16
  outbound : List CardPacket
  waitingRead : Option MemRequest
  deriving DecidableEq, Repr

/-! ### Order Unit (R153 to R158) -/

/-- The owner of an Order Cell (section 9.3). -/
inductive CellOwner where
  | software
  | controller
  deriving DecidableEq, Repr

/-- The Order Cell (section 9.3). -/
structure OrderCell where
  owner : CellOwner
  code : Byte
  number : BitVec 16
  priority : Byte
  deriving DecidableEq, Repr

/-- The order in progress: its code and number, its level, and the slot state it was taken in (section 9.4). -/
structure OrderInProgress where
  code : Byte
  number : BitVec 16
  level : Level
  taken : SlotState
  deriving DecidableEq, Repr

/-- The Result Block (section 9.3, R156). -/
structure ResultBlock where
  number : BitVec 16
  code : Byte
  outcome : OrderOutcome
  reason : Reason
  detail1 : Dword
  detail2 : Dword
  detail3 : Dword
  tick : Tick
  deriving DecidableEq, Repr

/-- The state of a slot's Order Unit: the Order Cell, the latched cancel behind the Cancel Cell (R158), the Result Block,
the order in progress and order_collision (R154). -/
structure OrderUnit where
  cell : OrderCell
  cancel : Bool
  result : ResultBlock
  order : Option OrderInProgress
  collision : Bool
  deriving DecidableEq, Repr

/-! ### Capture engine and Context Store (R136, R137, R140) -/

/-- The step of a capture (R140). -/
inductive CaptureStep where
  | identity
  | record (index : Fin 64)
  deriving DecidableEq, Repr

/-- The identity result of a capture (R140). -/
inductive IdentityResult where
  | none
  | read
  | unread
  deriving DecidableEq, Repr

/-- A capture in progress (R140). -/
structure Capture where
  step : CaptureStep
  offsetInHand : BitVec 16
  cursor : Nat
  recordsRead : Nat
  recordsFailed : Nat
  firstFailed : Nat
  identityResult : IdentityResult
  stop : Bool
  deriving DecidableEq, Repr

/-- The Context Header (R136), each field in the width of its cell. -/
structure ContextHeader where
  identityValid : Byte
  captureSerial : BitVec 16
  identity : Dword
  lastCaptureTick : Tick
  deriving DecidableEq, Repr

/-- A Restore Record (R137), each field in the width of its cell; state, offset and delay hold whatever software wrote. -/
structure RestoreRecord where
  state : Byte
  byteMask : BitVec 4
  offset : BitVec 16
  value : Dword
  verifyMask : Dword
  serial : BitVec 16
  delay : Byte
  verify : Byte
  deriving DecidableEq, Repr

/-- The Context Store of a slot: its Restore Context. -/
structure ContextStore where
  header : ContextHeader
  records : Vector RestoreRecord 64
  deriving DecidableEq, Repr

/-! ### Incident logic and counters (R170 to R173) -/

/-- An incident record (R170); an absent value is `none`, and no kind is the code 0 of a record never filed into. -/
structure IncidentRecord where
  filled : Bool
  kind : Option IncidentKind
  st : SlotState
  phase : Phase
  serial : Dword
  tick : Tick
  epoch : BitVec 16
  attempt : Nat
  reason : Reason
  valueA : Option Dword
  valueB : Option Dword
  valueC : Option Dword
  deriving DecidableEq, Repr

/-- The Incident List of a slot and its count of missed incidents (R171). -/
structure IncidentLogic where
  records : Vector IncidentRecord 8
  missed : Byte
  deriving DecidableEq, Repr

/-- The seven counters of a slot (R173). -/
structure Counters where
  postedDiscarded : Dword
  standinsIssued : Dword
  lateCompletions : Dword
  staleReturns : Dword
  cardTrafficDropped : Dword
  overruns : Dword
  timeouts : Dword
  deriving DecidableEq, Repr

/-- All the state that exists once per slot. `attempt` (R112) and `setAside` (R116) are held by the Recovery Sequencer,
one for each slot. -/
structure Slot where
  cu : Containment
  trk : Tracker
  rmap : Vector ReturnEntry 16
  port : SlotPort
  ou : OrderUnit
  capture : Option Capture
  ctx : ContextStore
  inc : IncidentLogic
  ctr : Counters
  cells : SlotSettings
  inForce : SlotSettings
  attempt : Nat
  setAside : BitVec 16
  deriving DecidableEq, Repr

/-! ### Recovery Sequencer (R111, R113) -/

/-- The phases of the current plan (R111). -/
inductive PlanPhase where
  | resetHold
  | training
  | settling
  | restoring
  deriving DecidableEq, Repr

/-- The request of the cursor's record in hand (R111). -/
inductive PlanStep where
  | none
  | write
  | verify
  deriving DecidableEq, Repr

/-- The record in hand (R111, R122). -/
structure RecordInHand where
  offset : BitVec 10
  byteMask : BitVec 4
  value : Dword
  verify : Bool
  verifyMask : Dword
  delay : Nat
  deriving DecidableEq, Repr

/-- The current plan (R111). -/
structure Plan where
  slot : SlotId
  level : Level
  attempt : Nat
  phase : PlanPhase
  grantTick : Tick
  holdTick : Option Tick
  trainLimit : Option Tick
  settleLimit : Option Tick
  retryTick : Option Tick
  delayTick : Option Tick
  retryLimit : Option Tick
  cursor : Nat
  step : PlanStep
  hand : RecordInHand
  written : Nat
  stop : Bool
  deriving DecidableEq, Repr

/-- A Recovery Queue entry (R113), held at its slot's place; `eligible` says that its earliest start tick has been taken
as reached (R115), which stays so (R44; DESIGN CHOICE, log 15). -/
structure QueueEntry where
  level : Level
  attempt : Nat
  earliest : Tick
  eligible : Bool
  deriving DecidableEq, Repr

/-! ### The outside -/

/-- What the Upstream Port sends to the host (R17): completions, card traffic passed on, the interrupt message (R169). -/
inductive HostPacket where
  | completion (c : Completion)
  | memRead (r : MemRequest)
  | memWrite (r : MemRequest) (data : List Dword)
  | message (m : CardMessage)
  | interrupt (address : BitVec 64) (data : Dword)
  deriving DecidableEq, Repr

/-- The pins and links: the presence line of each slot as last seen, what has left the Upstream Port, oldest first, and
what has left each Slot Port onto its link, oldest first. The model's own record of the outside (DESIGN CHOICE, log 8);
`upstream` is one list for all slots (DEDUCED, log 32). -/
structure Wires where
  presence : Vector Presence 8
  upstream : List HostPacket
  downstream : Vector (List CardPacket) 8
  deriving DecidableEq, Repr

/-- The state of the 2480. `hostQueue` holds the host non-posted requests that wait in the upstream link, first the one
that R23 keeps there, and `withheld` the slot it waits for, while which the Upstream Port withholds its non-posted credits.
`freeIndex` counts the free bytes used (FREE VALUE, log 1). `pending` is the queue of commands that wait, first in, first out. -/
structure State where
  now : Tick
  attn : BitVec 24
  attnEnable : BitVec 24
  deviceCells : DeviceSettings
  device : DeviceSettings
  unrouted : Dword
  incidentSerial : Dword
  mgmt : ManagementFunction
  hostQueue : List HostRequest
  withheld : Option SlotId
  plan : Option Plan
  queue : Vector (Option QueueEntry) 8
  slots : Vector Slot 8
  wires : Wires
  freeIndex : Nat
  pending : List Instr
  deriving DecidableEq, Repr

/-! ### Power-on reset -/

/-- R61. -/
def FenceTally.reset : FenceTally := { start := 0, completions := 0, requests := 0 }

/-- R61. -/
def Containment.reset : Containment :=
  { st := .empty, cause := .none, grace := none, followUp := .none, tally := .reset, triggers := [], period := 0 }

/-- R41, R53, R55. -/
def Tracker.reset : Tracker :=
  { ort := Vector.replicate 32 { gen := 0, body := none }, age := [], hold := [], waiting := none, watch := .idle,
    answered := 0 }

/-- R99, R104, R108, R109. -/
def SlotPort.reset : SlotPort :=
  { accepted := .absent, runCount := 0, sampleTimer := 1000, link := .down, upTick := 0, line := .asserted, epoch := 0,
    outbound := [], waitingRead := none }

/-- R166: every Result Block is 0. -/
def ResultBlock.reset : ResultBlock :=
  { number := 0, code := 0, outcome := .none, reason := .none, detail1 := 0, detail2 := 0, detail3 := 0, tick := 0 }

/-- R166. -/
def OrderUnit.reset : OrderUnit :=
  { cell := { owner := .software, code := 0, number := 0, priority := 0 }, cancel := false, result := .reset,
    order := none, collision := false }

/-- R136, R137. -/
def ContextStore.reset : ContextStore :=
  { header := { identityValid := 0, captureSerial := 0, identity := 0, lastCaptureTick := 0 },
    records := Vector.replicate 64
      { state := 0, byteMask := 0, offset := 0, value := 0, verifyMask := 0, serial := 0, delay := 0, verify := 0 } }

/-- R171: FREE with every other field 0. -/
def IncidentRecord.reset : IncidentRecord :=
  { filled := false, kind := none, st := .empty, phase := .none, serial := 0, tick := 0, epoch := 0, attempt := 0,
    reason := .none, valueA := none, valueB := none, valueC := none }

/-- R173. -/
def Counters.reset : Counters :=
  { postedDiscarded := 0, standinsIssued := 0, lateCompletions := 0, staleReturns := 0, cardTrafficDropped := 0,
    overruns := 0, timeouts := 0 }

/-- A slot after power-on reset: R41, R60, R61, R98, R109, R112, R116, R136, R137, R140, R164, R166, R171, R173. -/
def Slot.reset : Slot :=
  { cu := .reset, trk := .reset, rmap := Vector.replicate 16 { gen := 0, body := none }, port := .reset, ou := .reset,
    capture := none, ctx := .reset, inc := { records := Vector.replicate 8 .reset, missed := 0 }, ctr := .reset,
    cells := .default, inForce := .default, attempt := 0, setAside := 0 }

/-- The pins and links before anything has happened. DESIGN CHOICE (log 8): the presence lines start ABSENT. -/
def Wires.reset : Wires :=
  { presence := Vector.replicate 8 .absent, upstream := [], downstream := Vector.replicate 8 [] }

/-- The machine after power-on reset: NOW 0 (R43), ATTN and ATTN_ENABLE 0 (R167, R169), the Device Settings at their
defaults (R164), the unrouted counter 0 (R11), the incident serial 0 (R170), no credits withheld (R41), the sequencer idle
and the Recovery Queue empty (R111), and every slot as `Slot.reset`. -/
def State.reset : State :=
  { now := 0, attn := 0, attnEnable := 0, deviceCells := .default, device := .default, unrouted := 0,
    incidentSerial := 0, mgmt := .powerOn, hostQueue := [], withheld := none, plan := none,
    queue := Vector.replicate 8 none, slots := Vector.replicate 8 .reset, wires := .reset, freeIndex := 0, pending := [] }

end Sys2Proof.Machine
end

