-- ==== Sys2Proof/Machine/Operands.lean ====
section
/-! DEFINITION. What the controller derives from the fields of a transaction (R2 to R4, R19, R45, R46, R87, R90), the byte
order, and the codes of section 9.3. -/

namespace Sys2Proof.Machine

open Sys2Proof

/-! ### Bytes and dwords (00_scope.md, section 5: little-endian) -/

/-- The bytes of a word of `n` bytes, the least significant first. -/
def leBytes {w : Nat} (n : Nat) (v : BitVec w) : List Byte :=
  (List.range n).map fun k => v.extractLsb' (8 * k) 8

/-- The word of `w` bits whose bytes, least significant first, are the first `n` of a list (0 beyond its end). -/
def ofLeBytes (w n : Nat) (bs : List Byte) : BitVec w :=
  BitVec.ofNat w ((List.range n).foldr (fun k acc => (bs.getD k 0).toNat + 256 * acc) 0)

/-- The bytes of a list of dwords, the byte at the lowest position first. -/
def dwordBytes (ds : List Dword) : List Byte := ds.flatMap (leBytes 4)

/-- The dwords made of a list of bytes, 0 beyond its end. -/
def packDwords : Nat → List Byte → List Dword
  | 0, _ => []
  | n + 1, bs => ofLeBytes 32 4 bs :: packDwords n (bs.drop 4)

/-- A dword with the bytes that `enables` selects replaced by those of `data` (R37). -/
def mergeBytes (old data : Dword) (enables : BitVec 4) : Dword :=
  ofLeBytes 32 4 ((List.range 4).map fun k =>
    if enables.getLsbD k then data.extractLsb' (8 * k) 8 else old.extractLsb' (8 * k) 8)

/-! ### Memory requests (R2) -/

/-- The disabled bytes below the lowest enabled byte; 4 when no byte is enabled (DEDUCED, log 6). -/
def disabledBelow (enables : BitVec 4) : Nat :=
  if enables.getLsbD 0 then 0 else if enables.getLsbD 1 then 1 else if enables.getLsbD 2 then 2
  else if enables.getLsbD 3 then 3 else 4

/-- The disabled bytes above the highest enabled byte; 4 when no byte is enabled (DEDUCED, log 6). -/
def disabledAbove (enables : BitVec 4) : Nat :=
  if enables.getLsbD 3 then 0 else if enables.getLsbD 2 then 1 else if enables.getLsbD 1 then 2
  else if enables.getLsbD 0 then 3 else 4

/-- The first byte address of a MEM_READ (R2). -/
def firstByteAddress (r : MemRequest) : BitVec 64 :=
  if r.length ≤ 1 ∧ r.firstEnables = 0#4 then r.address
  else r.address + BitVec.ofNat 64 (disabledBelow r.firstEnables)

/-- The bytes requested of a MEM_READ (R2). -/
def memBytesRequested (r : MemRequest) : Nat :=
  if r.length ≤ 1 then
    if r.firstEnables = 0#4 then 1 else 4 - disabledBelow r.firstEnables - disabledAbove r.firstEnables
  else 4 * r.length - disabledBelow r.firstEnables - disabledAbove r.lastEnables

/-- The bytes requested of a non-posted request (R2, R3). -/
def bytesRequested : NonPosted → Nat
  | .memRead r => memBytesRequested r
  | .cfgRead _ => 4
  | .cfgWrite _ _ => 0

/-- The requester id of a non-posted request. -/
def requesterOf : NonPosted → BitVec 16
  | .memRead r => r.requesterId
  | .cfgRead r => r.requesterId
  | .cfgWrite r _ => r.requesterId

/-- The tag of a non-posted request. -/
def tagOf : NonPosted → BitVec 10
  | .memRead r => r.tag
  | .cfgRead r => r.tag
  | .cfgWrite r _ => r.tag

/-- The length in dwords of a non-posted request (R3, R45). -/
def lengthOf : NonPosted → Nat
  | .memRead r => r.length
  | .cfgRead _ => 1
  | .cfgWrite _ _ => 1

/-- Whether a non-posted request is of deadline class CONFIG (R1). -/
def isConfig : NonPosted → Bool
  | .memRead _ => false
  | .cfgRead _ => true
  | .cfgWrite _ _ => true

/-- A non-posted request under another requester id and tag (R19). -/
def retag (requesterId : BitVec 16) (tag : BitVec 10) : NonPosted → NonPosted
  | .memRead r => .memRead { r with requesterId := requesterId, tag := tag }
  | .cfgRead r => .cfgRead { r with requesterId := requesterId, tag := tag }
  | .cfgWrite r d => .cfgWrite { r with requesterId := requesterId, tag := tag } d

/-- The enabled bytes of a MEM_WRITE with their offsets from its address, in address order (R2). -/
def writtenBytes (r : MemRequest) (data : List Dword) : List (Nat × Byte) :=
  ((dwordBytes data).zipIdx).filterMap fun (b, k) =>
    let dword := k / 4
    let enabled :=
      if dword = 0 then r.firstEnables.getLsbD (k % 4)
      else if dword + 1 = r.length then r.lastEnables.getLsbD (k % 4) else true
    if enabled then some (k, b) else none

/-! ### Configuration requests (R10) -/

/-- The form in which a slot sends a configuration request to its card (R10), `first` being the first bus in force. -/
def sendForm (first : Byte) (r : CfgRequest) : CfgRequest :=
  if r.bus = first then { r with form := .localForm } else { r with form := .routedForm }

/-- A non-posted request in the form the slot sends it in (R10). -/
def formForCard (first : Byte) : NonPosted → NonPosted
  | .memRead r => .memRead r
  | .cfgRead r => .cfgRead (sendForm first r)
  | .cfgWrite r d => .cfgWrite (sendForm first r) d

/-- Whether a configuration request as sent reaches the card's primary function (R10). -/
def isPrimary (r : CfgRequest) : Bool :=
  r.form == .localForm && r.device == 0#5 && r.function == 0#3

/-- The kind of the entry that a request, as sent to the card, opens (R18). -/
def kindOf : NonPosted → EntryKind
  | .memRead r => .memRead (firstByteAddress r)
  | .cfgRead r => .cfgRead r.offset (isPrimary r)
  | .cfgWrite r d => .cfgWrite r.offset (isPrimary r) d r.enables

/-! ### Completions (R4, R29, R30) -/

/-- The bytes of a completion's data from its first carried byte on (R4). -/
def carriedStream (c : Completion) : List Byte :=
  (dwordBytes c.data).drop (c.lowerAddress.toNat % 4)

/-- The bytes carried by a completion (R4). -/
def bytesCarried (c : Completion) : Nat :=
  if c.data.isEmpty then 0 else min c.byteCount (4 * c.data.length - c.lowerAddress.toNat % 4)

/-- The number of dwords that `n` bytes from position `lead` of the first dword need (R30, R80). -/
def dwordsFor (lead n : Nat) : Nat := (lead + n + 3) / 4

/-- The data of a completion: `bytes` from position `lead` of the first dword, the unused positions of the last dword
filled from `follow`, and free bytes, numbered from `free` on, in every position that is then still open (R30, FREE VALUE, log 1). -/
def alignData (free lead : Nat) (bytes follow : List Byte) : List Dword :=
  let n := dwordsFor lead bytes.length
  let rest := 4 * n - lead - bytes.length
  let leading := (List.range lead).map fun k => Config.freeByte (free + k)
  let filled := follow.take rest
  let trailing := (List.range (rest - filled.length)).map fun k => Config.freeByte (free + lead + k)
  packDwords n (leading ++ bytes ++ filled ++ trailing)

/-- The number of free bytes that `alignData` uses. -/
def freeBytesUsed (lead : Nat) (bytes follow : List Byte) : Nat :=
  let rest := 4 * dwordsFor lead bytes.length - lead - bytes.length
  lead + (rest - (follow.take rest).length)

/-! ### Tags (R19, R28, R87, R90) -/

/-- The downstream tag of an entry (R19): generation × 32 + index. -/
def downstreamTag (gen : BitVec 3) (index : Fin 32) : BitVec 10 :=
  BitVec.ofNat 10 (gen.toNat * 32 + index.val)

/-- The upstream tag of a Return Map entry (R87): slot × 128 + generation × 16 + index. -/
def upstreamTag (slot : SlotId) (gen : BitVec 3) (index : Fin 16) : BitVec 10 :=
  BitVec.ofNat 10 (slot.val * 128 + gen.toNat * 16 + index.val)

/-- The index that a downstream tag names (R28). -/
def tagIndex (tag : BitVec 10) : Fin 32 := ⟨tag.toNat % 32, Nat.mod_lt _ (by decide)⟩

/-- The slot that an upstream tag names (R90). -/
def returnSlot (tag : BitVec 10) : SlotId :=
  ⟨tag.toNat / 128, by have := tag.isLt; omega⟩

/-- The index that an upstream tag names (R90). -/
def returnIndex (tag : BitVec 10) : Fin 16 := ⟨tag.toNat % 16, Nat.mod_lt _ (by decide)⟩

/-- The generation that an upstream tag carries (R90). -/
def returnGen (tag : BitVec 10) : BitVec 3 := BitVec.ofNat 3 (tag.toNat % 128 / 16)

/-! ### Time (R44, R46, R118) -/

/-- R44: a tick D is reached when (NOW − D) mod 2^32 is less than 2^31. -/
def reached (now d : Tick) : Bool := decide ((now - d).toNat < 2147483648)

/-- Whether an optional tick is set and reached. -/
def due (now : Tick) (d : Option Tick) : Bool := d.any (reached now)

/-- The tick `us` microseconds after `t`. -/
def after (t : Tick) (us : Nat) : Tick := t + BitVec.ofNat 32 us

/-- R46: the window from the base window B, the length L, the pace P, the stretch S and the ceiling C. -/
def windowUs (b l p s c : Nat) : Nat :=
  let pacePart := (l * p + 999) / 1000
  let raw := b + pacePart
  let stretched := raw * 2 ^ s
  max 16 (min stretched c)

/-- R118: hold(k) in milliseconds. -/
def holdFor (holdMs : Byte) (k : Nat) : Nat := min (holdMs.toNat * 2 ^ (k - 1)) 1000

/-! ### Routing values (R7, R160) -/

/-- The memory window that settings give (R7): whole 4 KiB blocks, none when the base is above the limit. -/
def windowOf (st : SlotSettings) : Option (BitVec 64 × BitVec 64) :=
  let base := st.windowBase &&& ~~~ 0xFFF#64
  let limit := st.windowLimit ||| 0xFFF#64
  if limit < base then none else some (base, limit)

/-- The bus range that settings give (R7), none when the first bus is above the last. -/
def busRangeOf (st : SlotSettings) : Option (Byte × Byte) :=
  if st.busLast < st.busFirst then none else some (st.busFirst, st.busLast)

/-- Whether a range contains a value. -/
def inRange {w : Nat} (range : Option (BitVec w × BitVec w)) (v : BitVec w) : Bool :=
  range.any fun (lo, hi) => decide (lo ≤ v) && decide (v ≤ hi)

/-- Whether two ranges share a value. -/
def overlaps {w : Nat} (a b : Option (BitVec w × BitVec w)) : Bool :=
  match a, b with
  | some (lo1, hi1), some (lo2, hi2) => decide (lo1 ≤ hi2) && decide (lo2 ≤ hi1)
  | _, _ => false

/-! ### Codes (section 9.3) -/

/-- The code of a slot state. -/
def SlotState.code : SlotState → Byte
  | .empty => 0 | .offline => 1 | .active => 2 | .fencing => 3 | .fenced => 4 | .recovering => 5 | .retired => 6

/-- The code of a phase. -/
def Phase.code : Phase → Byte
  | .none => 0 | .queued => 1 | .resetHold => 2 | .training => 3 | .settling => 4 | .restoring => 5

/-- The code of a fence cause. -/
def FenceCause.code : FenceCause → Byte
  | .none => 0 | .order => 1 | .timeout => 2 | .stall => 3 | .linkDown => 4 | .fatalMessage => 5

/-- The code of a level. -/
def Level.code : Level → Byte
  | .routine => 0 | .urgent => 1

/-- The level of a priority setting. -/
def levelOf (priority : Byte) : Level := if priority = 0 then .routine else .urgent

/-- The code of an order. -/
def OrderCode.code : OrderCode → Byte
  | .apply => 1 | .capture => 2 | .fence => 3 | .recover => 4 | .lift => 5 | .retire => 6 | .reinstate => 7

/-- The order that a code names (R155), none for NONE and for the codes above REINSTATE. -/
def orderOf (code : Byte) : Option OrderCode :=
  if code = 1 then some .apply else if code = 2 then some .capture else if code = 3 then some .fence
  else if code = 4 then some .recover else if code = 5 then some .lift else if code = 6 then some .retire
  else if code = 7 then some .reinstate else none

/-- The code of an outcome. -/
def OrderOutcome.code : OrderOutcome → Byte
  | .none => 0 | .done => 1 | .already => 2 | .partly => 3 | .refusedCode => 4 | .refusedState => 5
  | .refusedSettings => 6 | .cancelled => 7 | .failed => 8 | .aborted => 9

/-- The code of an incident kind. -/
def IncidentKind.code : IncidentKind → Byte
  | .requestTimeout => 1 | .stall => 2 | .linkDown => 3 | .fatalMessage => 4 | .cardPresent => 5 | .cardRemoved => 6
  | .fenceComplete => 7 | .attemptFailed => 8 | .recovered => 9 | .retired => 10 | .overrunCompletion => 11
  | .returnExpired => 12

/-- The code of a link state. -/
def LinkState.code : LinkState → Byte
  | .down => 0 | .training => 1 | .up => 2

/-- The code of a completion status. -/
def statusCode : CplStatus → Byte
  | .success => 0 | .unsupported => 1 | .abort => 2 | .notReady => 3

/-- The code of a reason. -/
def Reason.code : Reason → BitVec 16
  | .none => 0 | .cause c => c.code.setWidth 16
  | .upstream => 0x10 | .held => 0x11 | .controller => 0x12 | .unanswered => 0x18 | .partly => 0x19
  | .trainTimeout => 0x20 | .settleTimeout => 0x21 | .identityMismatch => 0x22 | .restoreRejected => 0x23
  | .verifyMismatch => 0x24 | .requestTimeout => 0x25 | .linkLost => 0x26 | .attemptsExhausted => 0x28
  | .wrongState => 0x30 | .linkNotUp => 0x31 | .cardRemoved => 0x32 | .fenced => 0x33 | .identityUnread => 0x34
  | .routingOverlap => 0x35 | .routingLocked => 0x36 | .unknownCode => 0x37
  | .slotState st => st.code.setWidth 16

/-- The phase that a plan's phase is shown as. -/
def PlanPhase.shown : PlanPhase → Phase
  | .resetHold => .resetHold | .training => .training | .settling => .settling | .restoring => .restoring

/-! ### Restore Records (R137, R138) -/

/-- A record that every reader treats as UNUSED (R137): an unknown state code, or an offset of 1,024 or more. -/
def RestoreRecord.known (r : RestoreRecord) : Bool :=
  decide (r.state.toNat ≤ 4) && decide (r.offset.toNat < 1024)

/-- R138: the capture engine reads the record. -/
def RestoreRecord.forCapture (r : RestoreRecord) : Bool :=
  r.known && decide (2 ≤ r.state.toNat)

/-- R122: a plan writes the record. -/
def RestoreRecord.forPlan (r : RestoreRecord) : Bool :=
  r.known && (r.state == 1#8 || r.state == 3#8) && r.byteMask != 0#4

/-- R37: the shadow update updates the record, for a write to `offset`. -/
def RestoreRecord.forShadow (r : RestoreRecord) (offset : BitVec 10) : Bool :=
  r.known && r.state == 3#8 && r.offset == offset.setWidth 16

/-- The record in hand copied from a record (R122): a delay above 15 is taken as 15. -/
def RestoreRecord.inHand (r : RestoreRecord) : RecordInHand :=
  { offset := r.offset.setWidth 10, byteMask := r.byteMask, value := r.value, verify := r.verify != 0#8,
    verifyMask := r.verifyMask, delay := min r.delay.toNat 15 }

/-- The record in hand of a plan that has reached no record yet. -/
def RecordInHand.none : RecordInHand :=
  { offset := 0, byteMask := 0, value := 0, verify := false, verifyMask := 0, delay := 0 }

/-- A function on every element of a vector. -/
def mapVector {α β : Type} {n : Nat} (f : α → β) (v : Vector α n) : Vector β n :=
  ⟨(v.toList.map f).toArray, by simp⟩

end Sys2Proof.Machine
end

