-- ==== Sys2Proof/Machine/Flags.lean ====
section
/-! DEFINITION. Saturating counts (R173, R116, R171), the attention bits (R167), the pending set and the interrupt message
(R169). -/

namespace Sys2Proof.Machine

open Sys2Proof

/-- A count that holds its largest value once reached (00_scope.md, section 5). -/
def satInc {w : Nat} (c : BitVec w) : BitVec w := if c = BitVec.allOnes w then c else c + 1

/-- `n` rises of a saturating count. -/
def satAdd {w : Nat} (c : BitVec w) (n : Nat) : BitVec w := BitVec.ofNat w (min (c.toNat + n) (2 ^ w - 1))

/-- The attention of a slot (R167). -/
inductive Attention where
  | orderDone
  | stateChange
  | incident
  deriving DecidableEq, Repr

/-- The place of an attention bit in ATTN (R167): 3s, 3s + 1 and 3s + 2. -/
def attentionBit (i : SlotId) : Attention → Nat
  | .orderDone => 3 * i.val
  | .stateChange => 3 * i.val + 1
  | .incident => 3 * i.val + 2

/-- The ATTN register with one bit, as a mask. -/
def attentionMask (i : SlotId) (a : Attention) : BitVec 24 := 1#24 <<< attentionBit i a

/-- R167: a raise sets the bit. -/
def State.raise (s : State) (i : SlotId) (a : Attention) : State :=
  { s with attn := s.attn ||| attentionMask i a }

/-- R167: a clear of one bit. -/
def State.clearAttention (s : State) (i : SlotId) (a : Attention) : State :=
  { s with attn := s.attn &&& ~~~ attentionMask i a }

/-- The bytes of a register write that `enables` selects, the others as in `old`. -/
def enabledBytes (old value : Dword) (enables : BitVec 4) : Dword := mergeBytes old value enables

/-- R167: a software write to ATTN clears each of bits 0 to 23 that the write sets to 1. -/
def State.writeAttn (s : State) (enables : BitVec 4) (value : Dword) : State :=
  { s with attn := s.attn &&& ~~~ (enabledBytes 0 value enables).setWidth 24 }

/-- R169: a software write to ATTN_ENABLE stores its bits 0 to 23. -/
def State.writeAttnEnable (s : State) (enables : BitVec 4) (value : Dword) : State :=
  { s with attnEnable := (enabledBytes (s.attnEnable.setWidth 32) value enables).setWidth 24 }

/-- The pending set (R169): the ATTN bits whose enable is set. -/
def State.pendingSet (s : State) : BitVec 24 := s.attn &&& s.attnEnable

/-- What ATTN reads (R167): the 24 bits, and ANY in bit 31. -/
def State.attnRead (s : State) : Dword :=
  s.attn.setWidth 32 ||| (if s.attn = 0 then 0#32 else 0x80000000#32)

/-- A packet takes its place in the upstream order (R17). -/
def State.emit (s : State) (p : HostPacket) : State :=
  { s with wires.upstream := s.wires.upstream ++ [p] }

/-- R169: an event that takes the pending set from empty to non-empty sends one interrupt message, if the host has
enabled message interrupts. The message is the last thing the event sends (DEDUCED, log 12). -/
def settleInterrupt (before after : State) : State :=
  if before.pendingSet = 0 ∧ after.pendingSet ≠ 0 ∧ after.mgmt.msiEnabled = true then
    after.emit (.interrupt after.mgmt.msiAddress after.mgmt.msiData)
  else after

/-- One event: its effect, and the interrupt message it sends if it fills the pending set. Every command is one. -/
def event (f : State → State) (s : State) : Host.Outcome State Fault Refusal := .next (settleInterrupt s (f s))

end Sys2Proof.Machine
end

