-- ==== Sys2Proof/Machine/Ops.lean ====
section
/-! DEFINITION. The named operations that every block uses: a slot's update, the phase of a slot, the counters, the filing
of incidents (R170, R171), the end of an order (R156), and the entry into ACTIVE (R62). -/

namespace Sys2Proof.Machine

open Sys2Proof

/-- The state with one slot changed. -/
def State.onSlot (s : State) (i : SlotId) (f : Slot → Slot) : State :=
  { s with slots := s.slots.set i (f s.slots[i]) }

/-- The state with one slot's Containment Unit changed. -/
def State.onCu (s : State) (i : SlotId) (f : Containment → Containment) : State :=
  s.onSlot i fun sl => { sl with cu := f sl.cu }

/-- The state with one slot's Tracker changed. -/
def State.onTracker (s : State) (i : SlotId) (f : Tracker → Tracker) : State :=
  s.onSlot i fun sl => { sl with trk := f sl.trk }

/-- The state with one slot's Slot Port changed. -/
def State.onPort (s : State) (i : SlotId) (f : SlotPort → SlotPort) : State :=
  s.onSlot i fun sl => { sl with port := f sl.port }

/-- The state with one slot's Order Unit changed. -/
def State.onOrderUnit (s : State) (i : SlotId) (f : OrderUnit → OrderUnit) : State :=
  s.onSlot i fun sl => { sl with ou := f sl.ou }

/-- The state with one slot's counters changed. -/
def State.onCounters (s : State) (i : SlotId) (f : Counters → Counters) : State :=
  s.onSlot i fun sl => { sl with ctr := f sl.ctr }

/-- The state with one slot's Recovery Queue entry set or removed. -/
def State.setQueue (s : State) (i : SlotId) (e : Option QueueEntry) : State :=
  { s with queue := s.queue.set i e }

/-! ### Counters (R173) -/

/-- R14, R17: posted_discarded rises by `n`. -/
def State.countPostedDiscarded (s : State) (i : SlotId) (n : Nat) : State :=
  s.onCounters i fun c => { c with postedDiscarded := satAdd c.postedDiscarded n }

/-- R85: standins_issued rises by `n`. -/
def State.countStandins (s : State) (i : SlotId) (n : Nat) : State :=
  s.onCounters i fun c => { c with standinsIssued := satAdd c.standinsIssued n }

/-- R33: late_completions rises by one. -/
def State.countLate (s : State) (i : SlotId) : State :=
  s.onCounters i fun c => { c with lateCompletions := satInc c.lateCompletions }

/-- R92, R93: stale_returns rises by one. -/
def State.countStale (s : State) (i : SlotId) : State :=
  s.onCounters i fun c => { c with staleReturns := satInc c.staleReturns }

/-- R6, R15: card_traffic_dropped rises by one. -/
def State.countCardDropped (s : State) (i : SlotId) : State :=
  s.onCounters i fun c => { c with cardTrafficDropped := satInc c.cardTrafficDropped }

/-- R34: overruns rises by one. -/
def State.countOverrun (s : State) (i : SlotId) : State :=
  s.onCounters i fun c => { c with overruns := satInc c.overruns }

/-- R51: timeouts rises by one. -/
def State.countTimeout (s : State) (i : SlotId) : State :=
  s.onCounters i fun c => { c with timeouts := satInc c.timeouts }

/-! ### Counts of open entries -/

/-- The open count of a slot (R18). -/
def Tracker.openCount (t : Tracker) : Nat := t.ort.toList.countP fun e => e.body.isSome

/-- The lowest-index FREE entry of the ORT. -/
def Tracker.lowestFree (t : Tracker) : Option (Fin 32) :=
  (List.finRange 32).find? fun k => (t.ort[k]).body.isNone

/-- The return open count of a slot (R86). -/
def Slot.returnOpenCount (sl : Slot) : Nat := sl.rmap.toList.countP fun e => e.body.isSome

/-- The lowest-index FREE Return Map entry (R88). -/
def Slot.lowestFreeReturn (sl : Slot) : Option (Fin 16) :=
  (List.finRange 16).find? fun k => (sl.rmap[k]).body.isNone

/-! ### Phase (R111) -/

/-- The phase of a slot (R111): QUEUED when it holds a Recovery Queue entry, the plan's phase when it is the current
plan's slot, and NONE unless it is RECOVERING. -/
def State.phaseOf (s : State) (i : SlotId) : Phase :=
  if (s.slots[i]).cu.st = .recovering then
    if (s.queue[i]).isSome then .queued
    else match s.plan with
      | some p => if p.slot = i then p.phase.shown else .none
      | none => .none
  else .none

/-! ### Incidents (R170, R171) -/

/-- The lowest-index FREE record of a slot's Incident List (R170). -/
def IncidentLogic.lowestFree (l : IncidentLogic) : Option (Fin 8) :=
  (List.finRange 8).find? fun k => !(l.records[k]).filled

/-- The record that an incident of this kind, filed now for slot `i`, is written as (R170). -/
def State.incidentRecord (s : State) (i : SlotId) (kind : IncidentKind) (reason : Reason) (a b c : Option Dword) :
    IncidentRecord :=
  let sl := s.slots[i]
  { filled := true, kind := some kind, st := sl.cu.st, phase := s.phaseOf i, serial := s.incidentSerial + 1,
    tick := s.now, epoch := sl.port.epoch, attempt := sl.attempt, reason := reason, valueA := a, valueB := b, valueC := c }

/-- A slot's Incident List after the filing of a record (R170), or after a missed incident (R171). -/
def IncidentLogic.file (l : IncidentLogic) (r : IncidentRecord) : IncidentLogic :=
  match l.lowestFree with
  | some k => { l with records := l.records.set k r }
  | none => { l with missed := satInc l.missed }

/-- The filing of an incident (R170, R171): the serial rises, the record is written or missed, INCIDENT is raised. -/
def State.fileIncident (s : State) (i : SlotId) (kind : IncidentKind) (reason : Reason) (a b c : Option Dword) :
    State :=
  let r := s.incidentRecord i kind reason a b c
  (({ s with incidentSerial := s.incidentSerial + 1 }).onSlot i fun sl => { sl with inc := sl.inc.file r }).raise i
    .incident

/-! ### The end of an order (R156) -/

/-- Whether the order in progress of a slot has a code. -/
def OrderUnit.orderIs (u : OrderUnit) (c : OrderCode) : Bool := u.order.any fun o => orderOf o.code == some c

/-- The Result Block of an order that ends (R156). -/
def resultOf (now : Tick) (o : OrderInProgress) (outcome : OrderOutcome) (reason : Reason) (d1 d2 d3 : Dword) :
    ResultBlock :=
  { number := o.number, code := o.code, outcome := outcome, reason := reason, detail1 := d1, detail2 := d2,
    detail3 := d3, tick := now }

/-- An Order Unit whose order in progress ends (R156): the Result Block is written whole, the owner is SOFTWARE and no
order is in progress. Nothing changes where no order is in progress. -/
def OrderUnit.finish (u : OrderUnit) (now : Tick) (outcome : OrderOutcome) (reason : Reason) (d1 d2 d3 : Dword) :
    OrderUnit :=
  match u.order with
  | some o => { u with result := resultOf now o outcome reason d1 d2 d3, cell.owner := .software, order := none }
  | none => u

/-- The end of the order in progress of a slot, with ORDER_DONE raised (R156). Nothing happens where no order is in
progress. -/
def State.endOrder (s : State) (i : SlotId) (outcome : OrderOutcome) (reason : Reason) (d1 d2 d3 : Dword) : State :=
  if (s.slots[i]).ou.order.isSome then
    (s.onOrderUnit i fun u => u.finish s.now outcome reason d1 d2 d3).raise i .orderDone
  else s

/-- The end of the order in progress of a slot if it has the code `c`. -/
def State.endOrderOf (s : State) (i : SlotId) (c : OrderCode) (outcome : OrderOutcome) (reason : Reason)
    (d1 d2 d3 : Dword) : State :=
  if (s.slots[i]).ou.orderIs c then s.endOrder i outcome reason d1 d2 d3 else s

/-! ### Slot state -/

/-- The slot takes a state. -/
def State.setSlotState (s : State) (i : SlotId) (st : SlotState) : State := s.onCu i fun c => { c with st := st }

/-- The slot's attempt number takes a value (R112). -/
def State.setAttempt (s : State) (i : SlotId) (k : Nat) : State := s.onSlot i fun sl => { sl with attempt := k }

/-- The slot becomes ACTIVE (R62): a new period of ACTIVE begins (R65) and the answered-timeout count returns to 0 (R53). -/
def State.becomeActive (s : State) (i : SlotId) : State :=
  (s.onCu i fun c => { c with st := .active, period := c.period + 1 }).onTracker i fun t => { t with answered := 0 }

/-- A fence trigger is reported to the slot's Containment Unit (R64), within its present period of ACTIVE (R65). -/
def State.reportTrigger (s : State) (i : SlotId) (cause : FenceCause) : State :=
  s.onCu i fun c => { c with triggers := c.triggers ++ [{ cause := cause, period := c.period }] }

/-- A slot state code as a dword, for details and values. -/
def stateDword (st : SlotState) : Dword := st.code.setWidth 32

/-- A count as a dword, for details and values. -/
def countDword (n : Nat) : Dword := BitVec.ofNat 32 n

end Sys2Proof.Machine
end

