-- ==== Sys2Proof/Machine/PortOps.lean ====
section
/-! DEFINITION. The Slot Port's operations: the outbound buffer (R17), the reset line (R107), the epoch (R108) and the link
it forces DOWN or lets train (R104, R105). -/

namespace Sys2Proof.Machine

open Sys2Proof

/-- A packet goes into a slot's outbound buffer (R17). -/
def State.pushOutbound (s : State) (i : SlotId) (p : CardPacket) : State :=
  s.onPort i fun q => { q with outbound := q.outbound ++ [p] }

/-- A host posted write or message, which counts in posted_discarded when it is removed from the buffer (R17). -/
def CardPacket.isPosted : CardPacket → Bool
  | .memWrite _ _ => true
  | .message _ => true
  | .request _ => false
  | .completion _ => false
  | .answer _ => false

/-- R17: everything still in the buffer is removed, and the posted writes and messages are counted. -/
def State.emptyOutbound (s : State) (i : SlotId) : State :=
  (s.countPostedDiscarded i ((s.slots[i]).port.outbound.countP CardPacket.isPosted)).onPort i
    fun q => { q with outbound := [] }

/-- R105: a link that leaves UP first empties the outbound buffer. -/
def State.takeLinkDown (s : State) (i : SlotId) : State :=
  (if (s.slots[i]).port.link = .up then s.emptyOutbound i else s).onPort i fun q => { q with link := .down }

/-- R107, R108: the assert command. A change from RELEASED to ASSERTED forces the link DOWN and raises the epoch; an
ASSERTED line stays as it is. -/
def State.assertLine (s : State) (i : SlotId) : State :=
  if (s.slots[i]).port.line = .released then
    (s.takeLinkDown i).onPort i fun q => { q with line := .asserted, epoch := q.epoch + 1 }
  else s

/-- R107: the release command. A change from ASSERTED to RELEASED makes the link TRAINING. -/
def State.releaseLine (s : State) (i : SlotId) : State :=
  if (s.slots[i]).port.line = .asserted then
    s.onPort i fun q => { q with line := .released, link := .training }
  else s

/-- R15: a card request, posted write or message is dropped and counted; R62: so is the read that waits when the slot
leaves ACTIVE. -/
def State.dropWaitingRead (s : State) (i : SlotId) : State :=
  if (s.slots[i]).port.waitingRead.isSome then
    (s.onPort i fun q => { q with waitingRead := none }).countCardDropped i
  else s

end Sys2Proof.Machine
end

