-- ==== Sys2Proof/Machine/ReturnMapOps.lean ====
section
/-! DEFINITION. The Return Map's operations: the opening of an entry (R87, R88), its freeing (R94), and the hand-over of the
card read that waits for one (R89). -/

namespace Sys2Proof.Machine

open Sys2Proof

/-- R87, R88: a card MEM_READ opens entry `k` and goes upstream under the entry's upstream tag and the management function's
requester id, every other field of it, `others` among them, as the card sent it. -/
def State.openReturn (s : State) (i : SlotId) (k : Fin 16) (r : MemRequest) : State :=
  let e := (s.slots[i]).rmap[k]
  let b : ReturnBody :=
    { requesterId := r.requesterId, tag := r.tag, bytesRequested := memBytesRequested r,
      bytesOwed := memBytesRequested r, expiry := after s.now (s.device.returnLimitMs.toNat * 1000) }
  (s.onSlot i fun sl => { sl with rmap := sl.rmap.set k { e with body := some b } }).emit
    (.memRead { r with requesterId := s.mgmt.requesterId, tag := upstreamTag i e.gen k })

/-- R15, R88, R89: the Containment Unit takes a card MEM_READ: forwarded to the Return Map in ACTIVE, where it waits at
the Slot Port if no entry is FREE; dropped and counted in any other state. -/
def State.takeCardRead (s : State) (i : SlotId) (r : MemRequest) : State :=
  if (s.slots[i]).cu.st = .active then
    match (s.slots[i]).lowestFreeReturn with
    | some k => s.openReturn i k r
    | none => s.onPort i fun q => { q with waitingRead := some r }
  else s.countCardDropped i

/-- R89: the waiting card read is handed over. -/
def State.handOverRead (s : State) (i : SlotId) : State :=
  match (s.slots[i]).port.waitingRead with
  | some r => (s.onPort i fun q => { q with waitingRead := none }).takeCardRead i r
  | none => s

/-- R94: entry `k` becomes FREE with its generation advanced. -/
def Slot.freedReturn (sl : Slot) (k : Fin 16) : Slot :=
  { sl with rmap := sl.rmap.set k { gen := (sl.rmap[k]).gen + 1, body := none } }

/-- R94: entry `k` is freed, and the freeing is reported to the Slot Port, which hands over a waiting read. -/
def State.freeReturn (s : State) (i : SlotId) (k : Fin 16) : State :=
  (s.onSlot i fun sl => sl.freedReturn k).handOverRead i

end Sys2Proof.Machine
end

