-- ==== Sys2Proof/Machine/StandIns.lean ====
section
/-! DEFINITION. The content of stand-in completions (R79 to R83), their sending and their count (R85), and the answers of
the Upstream Port to unrouted requests (R11). -/

namespace Sys2Proof.Machine

open Sys2Proof

/-- A dword of which every byte is 0xFF. -/
def onesDword : Dword := 0xFFFFFFFF#32

/-- R80: the ONES completions that carry `n` bytes from `address` on, each ending at the next multiple of 256 or at the
last byte. The first argument bounds the number of completions. -/
def onesFrom (requesterId : BitVec 16) (tag : BitVec 10) : Nat → BitVec 64 → Nat → List Completion
  | 0, _, _ => []
  | fuel + 1, address, n =>
    if n = 0 then []
    else
      let carried := min n (256 - address.toNat % 256)
      { requesterId := requesterId, tag := tag, status := .success, byteCount := n,
        lowerAddress := address.setWidth 7,
        data := List.replicate (dwordsFor (address.toNat % 4) carried) onesDword }
        :: onesFrom requesterId tag fuel (address + BitVec.ofNat 64 carried) (n - carried)

/-- The stand-in completions for one request (R79): the settled span of a request of `requested` bytes that still owes
`owed` of them, by kind (R80 to R83) and standin_mode (ONES 0, REFUSE above). -/
def standIns (mode : Byte) (requesterId : BitVec 16) (tag : BitVec 10) (kind : EntryKind) (requested owed : Nat) :
    List Completion :=
  match kind with
  | .memRead first =>
    if mode = 0 ∨ owed < requested then
      onesFrom requesterId tag owed (first + BitVec.ofNat 64 (requested - owed)) owed
    else
      [{ requesterId := requesterId, tag := tag, status := .unsupported, byteCount := requested,
         lowerAddress := first.setWidth 7, data := [] }]
  | .cfgRead _ _ =>
    [{ requesterId := requesterId, tag := tag, status := .success, byteCount := owed,
       lowerAddress := BitVec.ofNat 7 (4 - owed), data := [onesDword] }]
  | .cfgWrite _ _ _ _ =>
    [{ requesterId := requesterId, tag := tag, status := .success, byteCount := 4, lowerAddress := 0, data := [] }]

/-- The stand-ins for an ORT entry or held item of UPSTREAM origin; none for CONTROLLER origin. -/
def OrtBody.standIns (b : OrtBody) (mode : Byte) : List Completion :=
  match b.origin with
  | .upstream requesterId tag => Machine.standIns mode requesterId tag b.kind b.bytesRequested b.bytesOwed
  | .controller _ => []

/-- Completions take their places in the upstream order, one after the other (R17, R79). -/
def State.emitCompletions (s : State) (cs : List Completion) : State :=
  { s with wires.upstream := s.wires.upstream ++ cs.map .completion }

/-- Stand-in completions are sent upstream and counted in standins_issued (R85). -/
def State.sendStandIns (s : State) (i : SlotId) (cs : List Completion) : State :=
  (s.emitCompletions cs).countStandins i cs.length

/-- R11: the UNSUPPORTED completion for an unrouted non-posted request. -/
def unroutedAnswer : HostRequest → Completion
  | .known (.memRead r) =>
    { requesterId := r.requesterId, tag := r.tag, status := .unsupported, byteCount := memBytesRequested r,
      lowerAddress := (firstByteAddress r).setWidth 7, data := [] }
  | .known q =>
    { requesterId := requesterOf q, tag := tagOf q, status := .unsupported, byteCount := 4, lowerAddress := 0, data := [] }
  | .unrecognised requesterId tag =>
    { requesterId := requesterId, tag := tag, status := .unsupported, byteCount := 4, lowerAddress := 0, data := [] }

/-- R11: the unrouted counter rises by one. -/
def State.countUnrouted (s : State) : State := { s with unrouted := satInc s.unrouted }

/-- R11: an unrouted non-posted request is answered and counted. -/
def State.answerUnrouted (s : State) (q : HostRequest) : State :=
  (s.emitCompletions [unroutedAnswer q]).countUnrouted

end Sys2Proof.Machine
end

