-- ==== Sys2Proof/Machine/SwaRead.lean ====
section
/-! DEFINITION. What the Shared Work Area reads as (R150, R151, R172): every layout of section 9.3, as bytes. -/

namespace Sys2Proof.Machine

open Sys2Proof

/-- The bytes of a slot's settings cells (section 9.3, Slot Settings): 0x2A bytes. -/
def SlotSettings.bytes (c : SlotSettings) : List Byte :=
  leBytes 8 c.windowBase ++ leBytes 8 c.windowLimit ++ [c.busFirst, c.busLast] ++ leBytes 2 c.windowReadUs
    ++ leBytes 2 c.windowConfigUs
    ++ [c.paceNs, c.stretch, c.watchPeriod, c.timeoutAction, c.timeoutTolerance, c.standinMode, c.fenceOnFatal,
        c.autoRecover, c.priority, c.attemptLimit, c.holdMs, 0]
    ++ leBytes 2 c.graceUs ++ leBytes 2 c.trainLimitMs ++ leBytes 2 c.settleLimitMs ++ leBytes 2 c.settleRetryUs

/-- The settings cells that bytes in the layout of section 9.3 hold. -/
def SlotSettings.ofBytes (bs : List Byte) : SlotSettings :=
  { windowBase := ofLeBytes 64 8 bs, windowLimit := ofLeBytes 64 8 (bs.drop 8), busFirst := bs.getD 0x10 0,
    busLast := bs.getD 0x11 0, windowReadUs := ofLeBytes 16 2 (bs.drop 0x12),
    windowConfigUs := ofLeBytes 16 2 (bs.drop 0x14), paceNs := bs.getD 0x16 0, stretch := bs.getD 0x17 0,
    watchPeriod := bs.getD 0x18 0, timeoutAction := bs.getD 0x19 0, timeoutTolerance := bs.getD 0x1A 0,
    standinMode := bs.getD 0x1B 0, fenceOnFatal := bs.getD 0x1C 0, autoRecover := bs.getD 0x1D 0,
    priority := bs.getD 0x1E 0, attemptLimit := bs.getD 0x1F 0, holdMs := bs.getD 0x20 0,
    graceUs := ofLeBytes 16 2 (bs.drop 0x22), trainLimitMs := ofLeBytes 16 2 (bs.drop 0x24),
    settleLimitMs := ofLeBytes 16 2 (bs.drop 0x26), settleRetryUs := ofLeBytes 16 2 (bs.drop 0x28) }

/-- The bytes of the Device Settings cells (section 9.3). -/
def DeviceSettings.bytes (c : DeviceSettings) : List Byte := leBytes 4 c.ceilingUs ++ leBytes 2 c.returnLimitMs

/-- The Device Settings cells that bytes in that layout hold. -/
def DeviceSettings.ofBytes (bs : List Byte) : DeviceSettings :=
  { ceilingUs := ofLeBytes 32 4 bs, returnLimitMs := ofLeBytes 16 2 (bs.drop 4) }

/-- The bytes of a Context Header (section 9.3). -/
def ContextHeader.bytes (h : ContextHeader) : List Byte :=
  [h.identityValid, 0] ++ leBytes 2 h.captureSerial ++ leBytes 4 h.identity ++ leBytes 4 h.lastCaptureTick

/-- The Context Header that bytes in that layout hold. -/
def ContextHeader.ofBytes (bs : List Byte) : ContextHeader :=
  { identityValid := bs.getD 0 0, captureSerial := ofLeBytes 16 2 (bs.drop 2), identity := ofLeBytes 32 4 (bs.drop 4),
    lastCaptureTick := ofLeBytes 32 4 (bs.drop 8) }

/-- The bytes of a Restore Record (section 9.3); bits 4 to 7 of the byte mask read 0. -/
def RestoreRecord.bytes (r : RestoreRecord) : List Byte :=
  [r.state, r.byteMask.setWidth 8] ++ leBytes 2 r.offset ++ leBytes 4 r.value ++ leBytes 4 r.verifyMask
    ++ leBytes 2 r.serial ++ [r.delay, r.verify]

/-- The Restore Record that bytes in that layout hold. -/
def RestoreRecord.ofBytes (bs : List Byte) : RestoreRecord :=
  { state := bs.getD 0 0, byteMask := (bs.getD 1 0).setWidth 4, offset := ofLeBytes 16 2 (bs.drop 2),
    value := ofLeBytes 32 4 (bs.drop 4), verifyMask := ofLeBytes 32 4 (bs.drop 8), serial := ofLeBytes 16 2 (bs.drop 12),
    delay := bs.getD 14 0, verify := bs.getD 15 0 }

/-- One bit as a byte. -/
def boolByte (b : Bool) : Byte := if b then 1 else 0

/-- The bytes of the Order Cell (section 9.3). -/
def OrderCell.bytes (c : OrderCell) : List Byte :=
  [if c.owner = .controller then 1 else 0, c.code] ++ leBytes 2 c.number ++ [c.priority]

/-- The bytes of the Result Block (section 9.3). -/
def ResultBlock.bytes (r : ResultBlock) : List Byte :=
  leBytes 2 r.number ++ [r.code, r.outcome.code] ++ leBytes 2 r.reason.code ++ [0, 0] ++ leBytes 4 r.detail1
    ++ leBytes 4 r.detail2 ++ leBytes 4 r.detail3 ++ leBytes 4 r.tick

/-- The bytes of an incident record (section 9.3). -/
def IncidentRecord.bytes (r : IncidentRecord) : List Byte :=
  [boolByte r.filled, (r.kind.elim 0 IncidentKind.code), r.st.code, r.phase.code] ++ leBytes 4 r.serial
    ++ leBytes 4 r.tick ++ leBytes 2 r.epoch ++ [BitVec.ofNat 8 r.attempt, 0] ++ leBytes 2 r.reason.code
    ++ [boolByte r.valueA.isSome + 2 * boolByte r.valueB.isSome + 4 * boolByte r.valueC.isSome, 0]
    ++ leBytes 4 (r.valueA.getD 0) ++ leBytes 4 (r.valueB.getD 0) ++ leBytes 4 (r.valueC.getD 0)

/-- The bytes of the Slot Status of slot `i` (section 9.3, R172): 0x3C bytes. -/
def State.statusBytes (s : State) (i : SlotId) : List Byte :=
  let sl := s.slots[i]
  let e := s.queue[i]
  [sl.cu.st.code, (s.phaseOf i).code, if sl.port.accepted = .present then 1 else 0, sl.port.link.code,
    if sl.port.line = .asserted then 1 else 0, sl.cu.cause.code, BitVec.ofNat 8 sl.attempt,
    BitVec.ofNat 8 sl.trk.answered]
  ++ leBytes 2 sl.port.epoch
  ++ [BitVec.ofNat 8 sl.trk.openCount, BitVec.ofNat 8 sl.trk.hold.length, BitVec.ofNat 8 sl.returnOpenCount,
    boolByte sl.ou.collision, sl.inc.missed, sl.ou.order.elim 0 (·.code)]
  ++ leBytes 2 sl.setAside
  ++ [e.elim 0 (·.level.code), 0]
  ++ leBytes 4 (e.elim (0 : Tick) (·.earliest))
  ++ List.replicate 8 0
  ++ leBytes 4 sl.ctr.postedDiscarded ++ leBytes 4 sl.ctr.standinsIssued ++ leBytes 4 sl.ctr.lateCompletions
  ++ leBytes 4 sl.ctr.staleReturns ++ leBytes 4 sl.ctr.cardTrafficDropped ++ leBytes 4 sl.ctr.overruns
  ++ leBytes 4 sl.ctr.timeouts

/-- The byte whose bit s is set when `f s` holds, for the eight slots. -/
def slotMask (f : SlotId → Bool) : Byte :=
  (List.finRange 8).foldl (fun acc k => if f k then acc ||| (1#8 <<< k.val) else acc) 0

/-- The bytes of the Sequencer view (section 9.3, R111). -/
def State.sequencerView (s : State) : List Byte :=
  (match s.plan with
    | some p => [1, BitVec.ofNat 8 p.slot.val, p.phase.shown.code, p.level.code, BitVec.ofNat 8 p.attempt,
        BitVec.ofNat 8 p.cursor]
    | none => [0, 0, 0, 0, 0, 0])
  ++ [slotMask fun k => (s.queue[k]).isSome, slotMask fun k => (s.queue[k]).any fun e => e.level == .urgent]
  ++ leBytes 4 (s.plan.elim (0 : Tick) (·.grantTick))

/-- What a byte of slot page `i` reads as, by its offset from the start of the page. -/
def State.pageByte (s : State) (i : SlotId) (off : Nat) : Byte :=
  let sl := s.slots[i]
  if off < 0x010 then sl.ou.cell.bytes.getD off 0
  else if off < 0x020 then (if off = 0x010 then boolByte sl.ou.cancel else 0)
  else if off < 0x040 then sl.ou.result.bytes.getD (off - 0x020) 0
  else if off < 0x0C0 then sl.cells.bytes.getD (off - 0x040) 0
  else if off < 0x140 then (s.statusBytes i).getD (off - 0x0C0) 0
  else if off < 0x240 then
    ((sl.inc.records[(off - 0x140) / 32]?).elim [] IncidentRecord.bytes).getD ((off - 0x140) % 32) 0
  else if off < 0x260 then sl.ctx.header.bytes.getD (off - 0x240) 0
  else if off < 0x660 then
    ((sl.ctx.records[(off - 0x260) / 16]?).elim [] RestoreRecord.bytes).getD ((off - 0x260) % 16) 0
  else 0

/-- The slot whose page holds a BAR offset, and the offset within the page (section 9.1). -/
def pageOf (a : Nat) : Option (SlotId × Nat) :=
  if h : 0x1000 ≤ a ∧ a < 0x9000 then some (⟨a / 0x1000 - 1, by omega⟩, a % 0x1000) else none

/-- What a byte of the device area reads as, by its BAR offset below 0x1000 (sections 9.1 to 9.3). -/
def State.deviceByte (s : State) (a : Nat) : Byte :=
  if a < 0x0004 then (leBytes 4 s.attnRead).getD a 0
  else if a < 0x0008 then (leBytes 4 (s.attnEnable.setWidth 32 : Dword)).getD (a - 0x0004) 0
  else if a < 0x000C then (leBytes 4 s.now).getD (a - 0x0008) 0
  else if a < 0x0100 then 0
  else if a < 0x0120 then (leBytes 2 (0x5A47 : BitVec 16) ++ leBytes 2 (0x2480 : BitVec 16) ++ [0x01]).getD (a - 0x0100) 0
  else if a < 0x0140 then s.deviceCells.bytes.getD (a - 0x0120) 0
  else if a < 0x0160 then s.sequencerView.getD (a - 0x0140) 0
  else (leBytes 4 s.unrouted).getD (a - 0x0160) 0

/-- What a byte of the window reads as, by its BAR offset (R150): bytes that no map or layout names read 0, and so do the
offsets past the end of the 64 KiB. -/
def State.windowByte (s : State) (a : Nat) : Byte :=
  if a < 0x1000 then s.deviceByte a
  else match pageOf a with
    | some (i, off) => s.pageByte i off
    | none => 0

/-- The bytes of the window from a BAR offset on. -/
def State.windowBytes (s : State) (a n : Nat) : List Byte := (List.range n).map fun k => s.windowByte (a + k)

end Sys2Proof.Machine
end

