-- ==== Sys2Proof/Machine/Routing.lean ====
section
/-! DEFINITION. The Routing Unit (R7 to R10), the Request Tracker's taking of requests (R19, R21 to R24, R45 to R47, R56),
what the Upstream Port answers itself (R8, R11, R84, R150), and the requests that wait in the upstream link (R23). -/

namespace Sys2Proof.Machine

open Sys2Proof

/-! ### Routing -/

/-- What a host request is for (R8). -/
inductive Target where
  | window
  | management
  | slot (i : SlotId)
  | unrouted
  deriving DecidableEq, Repr

/-- R9: the slot whose in-force memory window contains an address. -/
def State.windowSlot (s : State) (address : BitVec 64) : Option SlotId :=
  (List.finRange 8).find? fun k => inRange (windowOf (s.slots[k]).inForce) address

/-- R10: the slot whose in-force bus range contains a bus. -/
def State.busSlot (s : State) (bus : Byte) : Option SlotId :=
  (List.finRange 8).find? fun k => inRange (busRangeOf (s.slots[k]).inForce) bus

/-- The BAR offset of an address in the 64 KiB assigned to the controller (R8). -/
def State.barOffset (s : State) (address : BitVec 64) : Option Nat :=
  match s.mgmt.bar with
  | some base =>
    if base.toNat ≤ address.toNat ∧ address.toNat < base.toNat + 65536 then some (address.toNat - base.toNat) else none
  | none => none

/-- R8, R9: the target of a memory request. -/
def State.memTarget (s : State) (address : BitVec 64) : Target :=
  if (s.barOffset address).isSome then .window
  else match s.windowSlot address with
    | some i => .slot i
    | none => .unrouted

/-- R8, R10: the target of a configuration request. -/
def State.cfgTarget (s : State) (r : CfgRequest) : Target :=
  match r.form with
  | .localForm => if r.device = 0#5 ∧ r.function = 0#3 then .management else .unrouted
  | .routedForm => match s.busSlot r.bus with
    | some i => .slot i
    | none => .unrouted

/-- R8: the target of a host non-posted request; an unrecognised one is unrouted (R6). -/
def State.target (s : State) : HostRequest → Target
  | .known (.memRead r) => s.memTarget r.address
  | .known (.cfgRead r) => s.cfgTarget r
  | .known (.cfgWrite r _) => s.cfgTarget r
  | .unrecognised _ _ => .unrouted

/-! ### Deadlines and the opening of an entry -/

/-- R45, R46: the deadline of a request of slot `i` that is taken now, by its class and its length in dwords. -/
def State.deadlineFor (s : State) (i : SlotId) (config : Bool) (length : Nat) : Tick :=
  let st := (s.slots[i]).inForce
  let base := if config then st.windowConfigUs.toNat else st.windowReadUs.toNat
  after s.now (windowUs base length st.paceNs.toNat st.stretch.toNat s.device.ceilingUs.toNat)

/-- R56: the Progress Watch after an entry has opened: armed if the open count rose from 0 while the slot is ACTIVE and
the watch is IDLE with a period in force that is not 0. -/
def watchAfterOpen (now : Tick) (sl : Slot) : Watch :=
  if sl.trk.openCount = 0 ∧ sl.cu.st = .active ∧ sl.trk.watch = .idle ∧ sl.inForce.watchPeriod ≠ 0 then
    .armed (after now (sl.inForce.watchPeriod.toNat * 1024))
  else sl.trk.watch

/-- The opening of entry `k` (R19, R20, R56): the entry takes its fields, joins the tail of the Age List, and its request
enters the outbound buffer under its downstream tag and the management function's requester id. -/
def State.openEntry (s : State) (i : SlotId) (k : Fin 32) (b : OrtBody) (q : NonPosted) : State :=
  s.onSlot i fun sl =>
    let e := sl.trk.ort[k]
    let sent := retag s.mgmt.requesterId (downstreamTag e.gen k) q
    { sl with
      trk.ort := sl.trk.ort.set k { e with body := some b }
      trk.age := sl.trk.age ++ [k]
      trk.watch := watchAfterOpen s.now sl
      port.outbound := sl.port.outbound ++ [.request sent] }

/-- The fields of an entry for a host request that is taken now (R18, R21), `q` being the request in the form it is sent
in. -/
def State.hostBody (s : State) (i : SlotId) (q : NonPosted) : OrtBody :=
  { origin := .upstream (requesterOf q) (tagOf q), kind := kindOf q, bytesRequested := bytesRequested q,
    bytesOwed := bytesRequested q, arrival := s.now, deadline := s.deadlineFor i (isConfig q) (lengthOf q), gathered := [] }

/-- R23: a request is left in the link, first in line, and the Upstream Port withholds its non-posted credits. -/
def State.leaveInLink (s : State) (i : SlotId) (q : HostRequest) : State :=
  { s with hostQueue := q :: s.hostQueue, withheld := some i }

/-- R21 to R23: a host request reaches the Tracker of an ACTIVE slot. -/
def State.takeHostRequest (s : State) (i : SlotId) (q : NonPosted) : State :=
  let sl := s.slots[i]
  let sent := formForCard sl.inForce.busFirst q
  let body := s.hostBody i sent
  match sl.trk.hold, sl.trk.lowestFree with
  | [], some k => s.openEntry i k body sent
  | hold, _ =>
    if hold.length < 8 then
      s.onTracker i fun t => { t with hold := t.hold ++ [{ body := body, request := sent }] }
    else s.leaveInLink i (.known q)

/-- R10: the bus number of the controller's own requests: the first bus in force, or 0 if the slot has no bus range. -/
def controllerBus (st : SlotSettings) : Byte := (busRangeOf st).elim 0 (·.1)

/-- The controller's own request as it is sent (R10, R24): form LOCAL, device 0, function 0. A read enables all four bytes
(DESIGN CHOICE, log 10). -/
def ControllerRequest.sent (c : ControllerRequest) (bus : Byte) : NonPosted :=
  let r : CfgRequest :=
    { requesterId := 0, tag := 0, form := .localForm, bus := bus, device := 0, function := 0, offset := c.offset,
      enables := 0xF }
  match c.write with
  | none => .cfgRead r
  | some (data, enables) => .cfgWrite { r with enables := enables } data

/-- The fields of the entry a controller request opens now (R24). -/
def State.controllerBody (s : State) (i : SlotId) (c : ControllerRequest) : OrtBody :=
  let q := c.sent 0
  { origin := .controller c.owner, kind := kindOf q, bytesRequested := bytesRequested q, bytesOwed := bytesRequested q,
    arrival := s.now, deadline := s.deadlineFor i true 1, gathered := [] }

/-- R24: a controller request opens entry `k`. -/
def State.openController (s : State) (i : SlotId) (k : Fin 32) (c : ControllerRequest) : State :=
  s.openEntry i k (s.controllerBody i c) (c.sent (controllerBus (s.slots[i]).inForce))

/-- R24: an owner issues a configuration request: it opens the lowest FREE entry, or waits for one. -/
def State.issueController (s : State) (i : SlotId) (c : ControllerRequest) : State :=
  match (s.slots[i]).trk.lowestFree with
  | some k => s.openController i k c
  | none => s.onTracker i fun t => { t with waiting := some c }

/-! ### What the Upstream Port answers itself -/

/-- R150: a host read of the window is answered with SUCCESS and its bytes as they stand, in one completion (DESIGN CHOICE, log 4). -/
def State.answerWindowRead (s : State) (r : MemRequest) (offset : Nat) : State :=
  let first := firstByteAddress r
  let lead := first.toNat % 4
  let bytes := s.windowBytes (offset + (first - r.address).toNat) (memBytesRequested r)
  let c : Completion :=
    { requesterId := r.requesterId, tag := r.tag, status := .success, byteCount := memBytesRequested r,
      lowerAddress := first.setWidth 7, data := alignData s.freeIndex lead bytes [] }
  { (s.emitCompletions [c]) with freeIndex := s.freeIndex + freeBytesUsed lead bytes [] }

/-- R8: a LOCAL configuration request to device 0, function 0 is served by the management function (FREE VALUES, log 2). -/
def State.serveManagement (s : State) (q : NonPosted) : State :=
  let answer (data : List Dword) : Completion :=
    { requesterId := requesterOf q, tag := tagOf q, status := .success, byteCount := 4, lowerAddress := 0, data := data }
  match q with
  | .memRead _ => s
  | .cfgRead r => s.emitCompletions [answer [Config.managementRead s.mgmt r.offset]]
  | .cfgWrite r d =>
    ({ s with mgmt := Config.managementWrite s.mgmt r.bus r.device r.function r.offset r.enables d }).emitCompletions
      [answer []]

/-- R84: the stand-ins for a new host request to a slot that is not ACTIVE, covering its full bytes requested. -/
def newStandIns (mode first : Byte) (q : NonPosted) : List Completion :=
  standIns mode (requesterOf q) (tagOf q) (kindOf (formForCard first q)) (bytesRequested q) (bytesRequested q)

/-- R13: a host non-posted request routed to a slot. -/
def State.slotRequest (s : State) (i : SlotId) (q : NonPosted) : State :=
  let sl := s.slots[i]
  if sl.cu.st = .active then s.takeHostRequest i q
  else s.sendStandIns i (newStandIns sl.inForce.standinMode sl.inForce.busFirst q)

/-- R8 to R13: a host non-posted request is decided, from routing onward. -/
def State.decide (s : State) (q : HostRequest) : State :=
  match s.target q, q with
  | .window, .known (.memRead r) => s.answerWindowRead r ((s.barOffset r.address).getD 0)
  | .management, .known n => s.serveManagement n
  | .slot i, .known n => s.slotRequest i n
  | _, q => s.answerUnrouted q

/-- R23: a host non-posted request arrives: while another waits in the link it waits behind it. -/
def State.arrive (s : State) (q : HostRequest) : State :=
  if s.hostQueue.isEmpty then s.decide q else { s with hostQueue := s.hostQueue ++ [q] }

/-- The first request in the link is decided anew (R23), with the credits granted again unless it must wait once more;
those behind it are decided by later events (DEDUCED, log 21). -/
def State.retakeFirst (s : State) : State :=
  match s.hostQueue with
  | [] => { s with withheld := none }
  | q :: rest => ({ s with hostQueue := rest, withheld := none }).decide q

/-- R23: the request that waits in the link for slot `i`, if any, is decided anew. -/
def State.retakeFor (s : State) (i : SlotId) : State :=
  if s.withheld = some i then s.retakeFirst else s

end Sys2Proof.Machine
end

