-- ==== Sys2Proof/Machine/TrackerOps.lean ====
section
/-! DEFINITION. The freeing of ORT entries and their handing on (R26, R27, R58), the settling of requests by stand-ins (R39,
R40), the ending of an owner (R25), and the shadow update (R37). -/

namespace Sys2Proof.Machine

open Sys2Proof

/-- R26, R58: entry `k` becomes FREE with its generation advanced and leaves the Age List; the Progress Watch becomes IDLE
if no entry is OPEN any more. -/
def Tracker.freed (t : Tracker) (k : Fin 32) : Tracker :=
  let t' := { t with ort := t.ort.set k { gen := (t.ort[k]).gen + 1, body := none }, age := t.age.erase k }
  if t'.openCount = 0 then { t' with watch := .idle } else t'

/-- R27: a freed entry is handed on to the waiting controller request, else to the head of the Hold Queue, which may
release the request that waits in the link (R23). -/
def State.handOn (s : State) (i : SlotId) (k : Fin 32) : State :=
  let t := (s.slots[i]).trk
  match t.waiting, t.hold with
  | some c, _ => (s.onTracker i fun t => { t with waiting := none }).openController i k c
  | none, h :: rest =>
    ((s.onTracker i fun t => { t with hold := rest }).openEntry i k h.body h.request).retakeFor i
  | none, [] => s

/-- R26, R27: entry `k` is freed, and handed on in the same event if the slot is ACTIVE. -/
def State.freeEntry (s : State) (i : SlotId) (k : Fin 32) : State :=
  let s' := s.onTracker i fun t => t.freed k
  if (s.slots[i]).cu.st = .active then s'.handOn i k else s'

/-- Whether an ORT entry is OPEN for a controller owner. -/
def OrtEntry.ownedBy (e : OrtEntry) (o : RequestOwner) : Bool := e.body.any fun b => b.origin == .controller o

/-- The entry that is OPEN for a controller owner, at most one (section 2.3). -/
def Tracker.ownedEntry (t : Tracker) (o : RequestOwner) : Option (Fin 32) :=
  (List.finRange 32).find? fun k => (t.ort[k]).ownedBy o

/-- R25: an owner ends its operation: its waiting request is withdrawn, its OPEN entry freed without result. -/
def State.endOwner (s : State) (i : SlotId) (o : RequestOwner) : State :=
  let s1 :=
    if (s.slots[i]).trk.waiting.any (·.owner == o) then s.onTracker i fun t => { t with waiting := none } else s
  match (s.slots[i]).trk.ownedEntry o with
  | some k => s1.freeEntry i k
  | none => s1

/-- What a settling by stand-ins did: the state, the stand-in completions sent and the requests settled. -/
structure Settled where
  state : State
  completions : Nat
  requests : Nat

/-- R39: the Hold Queue is drained, head first; each removal gives the queue room, so that a request that waits in the
link is decided anew. -/
def State.drainHold (s : State) (i : SlotId) : Settled :=
  let sl := s.slots[i]
  let cs := sl.trk.hold.flatMap fun h => h.body.standIns sl.inForce.standinMode
  if sl.trk.hold.isEmpty then { state := s, completions := 0, requests := 0 }
  else
    { state := ((s.sendStandIns i cs).onTracker i fun t => { t with hold := [] }).retakeFor i
      completions := cs.length
      requests := sl.trk.hold.length }

/-- R40: one OPEN entry is settled: an UPSTREAM one by stand-ins for its bytes owed, a CONTROLLER one without; its owner
has ended by then (DEDUCED, log 30). -/
def State.settleEntry (i : SlotId) (r : Settled) (k : Fin 32) : Settled :=
  let sl := r.state.slots[i]
  match (sl.trk.ort[k]).body with
  | none => r
  | some b =>
    match b.origin with
    | .controller _ => { r with state := r.state.freeEntry i k }
    | .upstream _ _ =>
      let cs := b.standIns sl.inForce.standinMode
      { state := (r.state.sendStandIns i cs).freeEntry i k
        completions := r.completions + cs.length
        requests := r.requests + 1 }

/-- R40: every OPEN entry is settled in Age List order, and a waiting controller request is withdrawn. -/
def State.closeAll (s : State) (i : SlotId) : Settled :=
  let r := (s.slots[i]).trk.age.foldl (State.settleEntry i) { state := s, completions := 0, requests := 0 }
  { r with state := r.state.onTracker i fun t => { t with waiting := none } }

/-- R37: the shadow update of a host CFG_WRITE that closed with SUCCESS. -/
def ContextStore.shadow (c : ContextStore) (offset : BitVec 10) (data : Dword) (enables : BitVec 4) : ContextStore :=
  let update (r : RestoreRecord) : RestoreRecord :=
    if r.forShadow offset then { r with value := mergeBytes r.value data enables } else r
  { c with records := mapVector update c.records }

/-- R37: the shadow update that the closing of an entry makes, if it is of a host CFG_WRITE to the primary function. -/
def State.shadowUpdate (s : State) (i : SlotId) (kind : EntryKind) : State :=
  match kind with
  | .cfgWrite offset true data enables => s.onSlot i fun sl => { sl with ctx := sl.ctx.shadow offset data enables }
  | .cfgWrite _ false _ _ => s
  | .cfgRead _ _ => s
  | .memRead _ => s

/-- R57: the Progress Watch on a progress report, in ACTIVE and in FENCING. -/
def State.reportProgress (s : State) (i : SlotId) : State :=
  s.onSlot i fun sl =>
    { sl with trk.watch :=
        if sl.cu.st ≠ .active then .idle
        else if sl.trk.openCount = 0 ∨ sl.inForce.watchPeriod = 0 then .idle
        else .armed (after s.now (sl.inForce.watchPeriod.toNat * 1024)) }

end Sys2Proof.Machine
end

