-- ==== Sys2Proof/Machine/CaptureOps.lean ====
section
/-! DEFINITION. The capture engine (R140 to R146): its start, the results of its reads, its finish, and the ways it ends
without finishing. -/

namespace Sys2Proof.Machine

open Sys2Proof

/-- The result that the Tracker passes to the owner of a controller request (R32, R50). -/
inductive RequestResult where
  | success (value : Dword)
  | refused (status : CplStatus)
  | timeout
  deriving DecidableEq, Repr

/-- The state of a slot's capture engine. -/
def State.setCapture (s : State) (i : SlotId) (c : Option Capture) : State := s.onSlot i fun sl => { sl with capture := c }

/-- R140: a capture as it begins. R140 names no offset in hand for the identity read: the model holds 0 (DESIGN CHOICE,
log 36). -/
def Capture.start : Capture :=
  { step := .identity, offsetInHand := 0, cursor := 0, recordsRead := 0, recordsFailed := 0, firstFailed := 64,
    identityResult := .none, stop := false }

/-- R140: the engine becomes busy and issues the identity read. -/
def State.startCapture (s : State) (i : SlotId) : State :=
  (s.setCapture i (some Capture.start)).issueController i { owner := .capture, offset := 0, write := none }

/-- A capture ends with an outcome, handed to the Order Unit with the three details (R144 to R146), and the engine
becomes idle. -/
def State.endCapture (s : State) (i : SlotId) (c : Capture) (outcome : OrderOutcome) (reason : Reason) : State :=
  (s.setCapture i none).endOrderOf i .capture outcome reason (countDword c.recordsRead) (countDword c.recordsFailed)
    (countDword c.firstFailed)

/-- R144: the capture finishes. -/
def State.finishCapture (s : State) (i : SlotId) (c : Capture) : State :=
  let s1 := s.onSlot i fun sl =>
    { sl with
      ctx.header.captureSerial := sl.ctx.header.captureSerial + 1
      ctx.header.lastCaptureTick := s.now }
  s1.endCapture i c
    (if c.recordsFailed = 0 ∧ c.identityResult = .read then .done else .partly)
    (if c.identityResult = .unread then .identityUnread else .none)

/-- R142: the first record from index `cursor` on that a capture reads. -/
def ContextStore.nextForCapture (c : ContextStore) (cursor : Nat) : Option (Fin 64) :=
  (List.finRange 64).find? fun k => decide (cursor ≤ k.val) && (c.records[k]).forCapture

/-- R142: the cursor moves to the next record for capture and issues its read, or reaches 64 and finishes. -/
def State.advanceCapture (s : State) (i : SlotId) (c : Capture) : State :=
  let ctx := (s.slots[i]).ctx
  match ctx.nextForCapture c.cursor with
  | some k =>
    let offset := (ctx.records[k]).offset
    (s.setCapture i (some { c with step := .record k, offsetInHand := offset, cursor := k.val })).issueController i
      { owner := .capture, offset := offset.setWidth 10, write := none }
  | none => s.finishCapture i { c with cursor := 64 }

/-- After the result of a read: the capture stops if a cancel has been taken (R146), and moves on otherwise. -/
def State.continueCapture (s : State) (i : SlotId) (c : Capture) : State :=
  if c.stop then s.endCapture i c .cancelled .none else s.advanceCapture i c

/-- R141: the header after the identity read. -/
def ContextHeader.afterIdentity (h : ContextHeader) : RequestResult → ContextHeader
  | .success v => { h with identity := v, identityValid := 1 }
  | .refused _ => h
  | .timeout => h

/-- R141: the identity result of a read's result. -/
def identityResultOf : RequestResult → IdentityResult
  | .success _ => .read
  | .refused _ => .unread
  | .timeout => .unread

/-- R143: a record that is still for capture, after its read. -/
def RestoreRecord.afterCapture (r : RestoreRecord) (serial : BitVec 16) : RequestResult → RestoreRecord
  | .success v => { r with value := v, state := 3, serial := serial + 1 }
  | .refused _ => { r with state := 4 }
  | .timeout => { r with state := 4 }

/-- Whether a read's result is SUCCESS. -/
def RequestResult.ok : RequestResult → Bool
  | .success _ => true
  | .refused _ => false
  | .timeout => false

/-- R143: the record is still for capture, and its offset is the offset in hand. -/
def RestoreRecord.stillForCapture (r : RestoreRecord) (offset : BitVec 16) : Bool := r.forCapture && r.offset == offset

/-- R143: the result of the read of record `k`. -/
def State.recordResult (s : State) (i : SlotId) (c : Capture) (k : Fin 64) (result : RequestResult) : State :=
  let ctx := (s.slots[i]).ctx
  let live := (ctx.records[k]).stillForCapture c.offsetInHand
  let s1 :=
    if live then
      s.onSlot i fun sl =>
        { sl with ctx.records :=
            sl.ctx.records.set k ((sl.ctx.records[k]).afterCapture sl.ctx.header.captureSerial result) }
    else s
  let failed := live && !result.ok
  s1.continueCapture i
    { c with
      recordsRead := c.recordsRead + 1
      recordsFailed := if failed then c.recordsFailed + 1 else c.recordsFailed
      firstFailed := if failed ∧ c.firstFailed = 64 then k.val else c.firstFailed
      cursor := k.val + 1 }

/-- R141, R143: the engine takes the result of its read. -/
def State.captureResult (s : State) (i : SlotId) (result : RequestResult) : State :=
  match (s.slots[i]).capture with
  | none => s
  | some c =>
    match c.step with
    | .identity =>
      (s.onSlot i fun sl => { sl with ctx.header := sl.ctx.header.afterIdentity result }).continueCapture i
        { c with identityResult := identityResultOf result, cursor := 0 }
    | .record k => s.recordResult i c k result

/-- R62, R145, R146: the slot has left ACTIVE: a capture in progress ends FAILED, or CANCELLED if a cancel has been
taken. -/
def State.captureLeaves (s : State) (i : SlotId) : State :=
  match (s.slots[i]).capture with
  | none => s
  | some c =>
    let s1 := s.endOwner i .capture
    if c.stop then s1.endCapture i c .cancelled .none
    else s1.endCapture i c .failed (if (s.slots[i]).cu.st = .empty then .cardRemoved else .fenced)

/-- R146: a cancel taken for a capture: a read that is OPEN sets the stop request; a request that waits for an entry is
withdrawn and the capture stops. -/
def State.cancelCapture (s : State) (i : SlotId) : State :=
  match (s.slots[i]).capture with
  | none => s
  | some c =>
    if ((s.slots[i]).trk.ownedEntry .capture).isSome then s.setCapture i (some { c with stop := true })
    else (s.endOwner i .capture).endCapture i c .cancelled .none

end Sys2Proof.Machine
end

