-- ==== Sys2Proof/Machine/SequencerOps.lean ====
section
/-! DEFINITION. The Recovery Sequencer (R111 to R134): the Recovery Queue and its grant, the set-aside, the plan's phases,
its success, its failure, its stopping and its abandonment. -/

namespace Sys2Proof.Machine

open Sys2Proof

/-- The sequencer's current plan is set, or the sequencer becomes idle. -/
def State.setPlan (s : State) (p : Option Plan) : State := { s with plan := p }

/-! ### The grant (R115, R118) -/

/-- R115: an entry is eligible once its earliest start tick has been reached. -/
def QueueEntry.isEligible (e : QueueEntry) (now : Tick) : Bool := e.eligible || reached now e.earliest

/-- Whether slot `k` holds an eligible Recovery Queue entry of a level. -/
def State.eligibleAt (s : State) (level : Level) (k : SlotId) : Bool :=
  (s.queue[k]).any fun e => e.level == level && e.isEligible s.now

/-- The lowest slot number with an eligible entry of a level (R115). -/
def State.lowestEligible (s : State) (level : Level) : Option SlotId := (List.finRange 8).find? (s.eligibleAt level)

/-- R115: the entry the grant chooses: URGENT before ROUTINE, and then the lowest slot number. -/
def State.chosen (s : State) : Option SlotId :=
  match s.lowestEligible .urgent with
  | some k => some k
  | none => s.lowestEligible .routine

/-- R111, R118: the plan as it is granted from a queue entry, with its hold tick set from hold(k). The restore cursor 0, the
step NONE, the empty record in hand and the count 0 that it holds until R121 and R122 set them are the model's (DESIGN
CHOICE, log 35). -/
def grantedPlan (now : Tick) (i : SlotId) (e : QueueEntry) (holdMs : Byte) : Plan :=
  { slot := i, level := e.level, attempt := e.attempt, phase := .resetHold, grantTick := now,
    holdTick := some (after now (holdFor holdMs e.attempt * 1000)), trainLimit := none, settleLimit := none,
    retryTick := none, delayTick := none, retryLimit := none, cursor := 0, step := .none, hand := .none, written := 0,
    stop := false }

/-- R115, R118: the entry of slot `i` is granted: it leaves the queue, the plan enters RESET_HOLD, the reset line is
asserted and STATE_CHANGE is raised. -/
def State.grant (s : State) (i : SlotId) : State :=
  match s.queue[i] with
  | none => s
  | some e =>
    let s1 := (s.setQueue i none).setPlan (some (grantedPlan s.now i e (s.slots[i]).inForce.holdMs))
    (s1.assertLine i).raise i .stateChange

/-- R115: the sequencer grants a plan whenever it is idle and the queue holds an eligible entry. -/
def State.grantIfIdle (s : State) : State :=
  if s.plan.isSome then s
  else match s.chosen with
    | some i => s.grant i
    | none => s

/-! ### Leaving the plan -/

/-- R132: a stop request is acted on: the plan's request is freed or withdrawn, the slot becomes OFFLINE or FENCED by its
reset line, its attempt number 0, the order ends CANCELLED, and the sequencer becomes idle. -/
def State.stopPlan (s : State) (p : Plan) : State :=
  let i := p.slot
  let s1 := (s.endOwner i .plan).setPlan none
  let st : SlotState := if (s.slots[i]).port.line = .asserted then .offline else .fenced
  (((s1.setSlotState i st).setAttempt i 0).raise i .stateChange).endOrderOf i .recover .cancelled .none
    (countDword p.attempt) 0 0

/-- R133, R134: the current plan is abandoned: its request is freed or withdrawn, its timers end with it, and the
sequencer becomes idle. -/
def State.abandonPlan (s : State) (p : Plan) : State := (s.endOwner p.slot .plan).setPlan none

/-- R116: an eligible URGENT entry waits for a ROUTINE plan in RESET_HOLD or TRAINING. -/
def State.mustSetAside (s : State) (p : Plan) : Bool :=
  p.level == .routine && (p.phase == .resetHold || p.phase == .training) && (s.lowestEligible .urgent).isSome

/-- R116: the current plan returns to the Recovery Queue with its reset line asserted; R132: a stop request is acted on in
its place. -/
def State.setAside (s : State) : State :=
  match s.plan with
  | none => s
  | some p =>
    if s.mustSetAside p then
      if p.stop then s.stopPlan p
      else
        (((s.assertLine p.slot).setQueue p.slot
            (some { level := .routine, attempt := p.attempt, earliest := s.now, eligible := true })).setPlan none).onSlot
          p.slot fun sl => { sl with setAside := satInc sl.setAside }
    else s

/-- R115, R116: what a newly eligible entry brings about: a set-aside, and a grant. -/
def State.arbitrate (s : State) : State := s.setAside.grantIfIdle

/-- R113: a slot joins the Recovery Queue from OFFLINE or FENCED, at attempt 1 and eligible at once. -/
def State.joinQueue (s : State) (i : SlotId) (level : Level) : State :=
  ((((s.setSlotState i .recovering).setAttempt i 1).setQueue i
    (some { level := level, attempt := 1, earliest := s.now, eligible := true })).raise i .stateChange).arbitrate

/-! ### Failure (R128 to R130) -/

/-- The record index of an order's result or an incident: the cursor in RESTORING. -/
def Plan.recordIndex (p : Plan) : Option Dword := if p.phase = .restoring then some (countDword p.cursor) else none

/-- R129, R130: the slot is retired after a failure. -/
def State.retireAfterFailure (s : State) (p : Plan) (why failure : Reason) (valueB : Dword) : State :=
  let i := p.slot
  let s1 := ((s.setPlan none).assertLine i).setSlotState i .retired
  (((s1.fileIncident i .retired why (some (countDword p.attempt)) (some valueB) none).raise i .stateChange).endOrderOf i
    .recover .failed failure (countDword p.attempt) (p.recordIndex.getD 64) 0).grantIfIdle

/-- R129: the slot is queued again after a failed attempt, with its backoff. -/
def State.requeue (s : State) (p : Plan) : State :=
  let i := p.slot
  let start := after s.now (holdFor (s.slots[i]).inForce.holdMs p.attempt * 1000)
  ((((s.setPlan none).setAttempt i (p.attempt + 1)).setQueue i
    (some { level := p.level, attempt := p.attempt + 1, earliest := start, eligible := false }))).grantIfIdle

/-- R128: the plan's request is freed or withdrawn, its timers are cleared and ATTEMPT_FAILED is filed. -/
def State.fileFailure (s : State) (p : Plan) (reason : Reason) (valueC : Option Dword) : State :=
  (s.endOwner p.slot .plan).fileIncident p.slot .attemptFailed reason (some (countDword p.attempt)) p.recordIndex valueC

/-- R128 to R130: an attempt fails. -/
def State.failAttempt (s : State) (p : Plan) (reason : Reason) (valueC : Option Dword) : State :=
  let s1 := s.fileFailure p reason valueC
  if reason = .identityMismatch then s1.retireAfterFailure p .identityMismatch reason (valueC.getD 0)
  else if p.attempt < (s.slots[p.slot]).inForce.attemptLimit.toNat then s1.requeue p
  else s1.retireAfterFailure p .attemptsExhausted reason (reason.code.setWidth 32)

/-! ### The plan's steps (R120 to R126) -/

/-- R126: the restore cursor reaches 64 and the plan succeeds. -/
def State.planSucceeds (s : State) (p : Plan) : State :=
  let i := p.slot
  let duration := s.now - p.grantTick
  let s1 := (s.becomeActive i).fileIncident i .recovered .none (some (countDword p.attempt)) (some (countDword p.written))
    (some duration)
  ((((s1.setAttempt i 0).raise i .stateChange).endOrderOf i .recover .done .none (countDword p.attempt)
    (countDword p.written) duration).setPlan none).grantIfIdle

/-- R122: the first record from index `cursor` on that a plan writes. -/
def ContextStore.nextForPlan (c : ContextStore) (cursor : Nat) : Option (Fin 64) :=
  (List.finRange 64).find? fun k => decide (cursor ≤ k.val) && (c.records[k]).forPlan

/-- R121, R123, R124: the plan's request for its phase and step, to be issued or reissued. -/
def Plan.request (p : Plan) : ControllerRequest :=
  match p.phase, p.step with
  | .restoring, .write => { owner := .plan, offset := p.hand.offset, write := some (p.hand.value, p.hand.byteMask) }
  | .restoring, _ => { owner := .plan, offset := p.hand.offset, write := none }
  | _, _ => { owner := .plan, offset := 0, write := none }

/-- The plan takes a new value and issues its request (R24). -/
def State.planIssues (s : State) (p : Plan) : State := (s.setPlan (some p)).issueController p.slot p.request

/-- R122, R125: the restore cursor moves to the next record that is written, with the record copied into hand and the
restore write issued, or reaches 64. -/
def State.restoreFrom (s : State) (p : Plan) (cursor : Nat) : State :=
  let ctx := (s.slots[p.slot]).ctx
  match ctx.nextForPlan cursor with
  | some k =>
    s.planIssues { p with cursor := k.val, step := .write, hand := (ctx.records[k]).inHand, retryLimit := none }
  | none => s.planSucceeds { p with cursor := 64, step := .none, retryLimit := none }

/-- R125: the record's requests have ended in SUCCESS: its delay follows, or the next record. The retry limit tick is
cleared here and not before (DEDUCED, log 23). -/
def State.recordDone (s : State) (p : Plan) : State :=
  if p.hand.delay = 0 then s.restoreFrom { p with step := .none } (p.cursor + 1)
  else s.setPlan (some { p with
    step := .none, retryLimit := none, delayTick := some (after s.now (p.hand.delay * 100)) })

/-- R125: a record's request is answered NOT_READY: the retry tick is set, and at the record's first NOT_READY the retry
limit. -/
def State.retryRecord (s : State) (p : Plan) : State :=
  let st := (s.slots[p.slot]).inForce
  s.setPlan (some { p with
    retryTick := some (after s.now st.settleRetryUs.toNat)
    retryLimit := some (p.retryLimit.getD (after s.now (st.settleLimitMs.toNat * 1000))) })

/-- R121: the identity read's result SUCCESS with a value. -/
def State.identityAnswered (s : State) (p : Plan) (v : Dword) : State :=
  let h := (s.slots[p.slot]).ctx.header
  if h.identityValid ≠ 0 ∧ v ≠ h.identity then s.failAttempt p .identityMismatch (some v)
  else s.restoreFrom { p with phase := .restoring, settleLimit := none } 0

/-- R121: the sequencer takes the identity read's result in SETTLING. -/
def State.settlingResult (s : State) (p : Plan) : RequestResult → State
  | .success v => s.identityAnswered p v
  | .refused _ =>
    s.setPlan (some { p with retryTick := some (after s.now (s.slots[p.slot]).inForce.settleRetryUs.toNat) })
  | .timeout => s.failAttempt p .requestTimeout none

/-- R123, R124: the restore write succeeded, or the verify read did with a value. -/
def State.recordAnswered (s : State) (p : Plan) (v : Dword) : State :=
  if p.step = .write then
    let p' := { p with written := p.written + 1 }
    if p.hand.verify then s.planIssues { p' with step := .verify } else s.recordDone p'
  else if (v ^^^ p.hand.value) &&& p.hand.verifyMask = 0 then s.recordDone p
  else s.failAttempt p .verifyMismatch (some v)

/-- R123, R124: the sequencer takes the result of a record's request in RESTORING. -/
def State.restoringResult (s : State) (p : Plan) : RequestResult → State
  | .success v => s.recordAnswered p v
  | .refused .notReady => s.retryRecord p
  | .refused status => s.failAttempt p .restoreRejected (some ((statusCode status).setWidth 32))
  | .timeout => s.failAttempt p .requestTimeout none

/-- R132: the plan's next event: a stop request is acted on in place of what the event would otherwise do. -/
def State.planEvent (s : State) (p : Plan) (act : Plan → State → State) : State :=
  if p.stop then (s.stopPlan p).grantIfIdle else act p s

/-- R121, R123, R124: the Tracker hands the sequencer the result of the plan's request. -/
def State.planResult (s : State) (i : SlotId) (result : RequestResult) : State :=
  match s.plan with
  | none => s
  | some p =>
    if p.slot = i then
      s.planEvent p fun p s =>
        match p.phase with
        | .settling => s.settlingResult p result
        | .restoring => s.restoringResult p result
        | .resetHold => s
        | .training => s
    else s

/-- The result of a controller request goes to its owner (R32, R50). -/
def State.ownerResult (s : State) (i : SlotId) (o : RequestOwner) (result : RequestResult) : State :=
  match o with
  | .capture => s.captureResult i result
  | .plan => s.planResult i result

/-- R120: the link became UP in TRAINING: the plan enters SETTLING and issues the identity read. -/
def State.enterSettling (s : State) (p : Plan) : State :=
  s.planIssues { p with
    phase := .settling, trainLimit := none,
    settleLimit := some (after s.now ((s.slots[p.slot]).inForce.settleLimitMs.toNat * 1000)) }

/-- R119: the hold tick is reached: the reset line is released and the plan enters TRAINING. -/
def State.enterTraining (s : State) (p : Plan) : State :=
  (s.releaseLine p.slot).setPlan (some { p with
    phase := .training, holdTick := none,
    trainLimit := some (after s.now ((s.slots[p.slot]).inForce.trainLimitMs.toNat * 1000)) })

/-- R114: a RECOVER order adopts the recovery in progress; URGENT raises the level of the entry or of the plan. -/
def State.adopt (s : State) (i : SlotId) (level : Level) : State :=
  match level with
  | .routine => s
  | .urgent =>
    match s.queue[i] with
    | some e => (s.setQueue i (some { e with level := .urgent })).arbitrate
    | none =>
      match s.plan with
      | some p => if p.slot = i then s.setPlan (some { p with level := .urgent }) else s
      | none => s

/-- R133, R134: the sequencer gives a slot up, without a grant yet: its queue entry is removed, or the current plan is
abandoned; at a card removal a stop request is acted on first. -/
def State.giveUp (s : State) (i : SlotId) (atRemoval : Bool) : State :=
  let s1 := s.setQueue i none
  match s1.plan with
  | some p => if p.slot = i then (if p.stop && atRemoval then s1.stopPlan p else s1.abandonPlan p) else s1
  | none => s1

end Sys2Proof.Machine
end

