-- ==== Sys2Proof/Machine/ContainmentOps.lean ====
section
/-! DEFINITION. The Containment Unit: leaving ACTIVE (R62), the fence and its closure (R68 to R73), the abrupt close (R75),
retirement by order (R77), and the reports of the link and of card messages (R66, R67). -/

namespace Sys2Proof.Machine

open Sys2Proof

/-- R62: the announcements of a slot that has left ACTIVE: the Progress Watch becomes IDLE, a host request that waits in
the link for the slot is decided anew, a waiting card MEM_READ is dropped, and a capture in progress ends. -/
def State.announceLeave (s : State) (i : SlotId) : State :=
  ((((s.onTracker i fun t => { t with watch := .idle }).retakeFor i).dropWaitingRead i).captureLeaves i)

/-- Stand-in completions and settled requests are added to the fence tally (R72). -/
def State.addTally (s : State) (i : SlotId) (completions requests : Nat) : State :=
  s.onCu i fun c =>
    { c with tally := { c.tally with
        completions := c.tally.completions + completions, requests := c.tally.requests + requests } }

/-- R75: an abrupt close naming a state: everything the slot owes the host is settled at once. The number of stand-in
completions made is reported. -/
def State.abruptClose (s : State) (i : SlotId) (st : SlotState) : Settled :=
  let s1 := s.setSlotState i st
  let s2 := if (s.slots[i]).cu.st = .active then s1.announceLeave i else s1
  let r1 := (s2.onCu i fun c => { c with grace := none, followUp := .none }).drainHold i
  let r2 := r1.state.closeAll i
  { state := r2.state, completions := r1.completions + r2.completions, requests := r1.requests + r2.requests }

/-- R77: the slot becomes RETIRED by order: an abrupt close, the assertion of the reset line, the RETIRED incident with
the slot state in which the order was taken, STATE_CHANGE, and the end of the order. -/
def State.retireByOrder (s : State) (i : SlotId) (taken : SlotState) : State :=
  ((((s.abruptClose i .retired).state.assertLine i).fileIncident i .retired (.cause .order) (some (stateDword taken)) none
    none).raise i .stateChange).endOrderOf i .retire .done .none (stateDword taken) 0 0

/-- The slot state in which the order in progress was taken; the present state where no order is in progress. -/
def Slot.takenState (sl : Slot) : SlotState := sl.ou.order.elim sl.cu.st (·.taken)

/-- R73: the follow-up of a fence that has reached FENCED. -/
def State.applyFollowUp (s : State) (i : SlotId) : State :=
  let sl := s.slots[i]
  let s1 := s.onCu i fun c => { c with followUp := .none }
  match sl.cu.followUp with
  | .retire => s1.retireByOrder i sl.takenState
  | .recover level => s1.joinQueue i level
  | .none =>
    if sl.inForce.autoRecover ≠ 0 ∧ sl.cu.cause ≠ .order then s1.joinQueue i (levelOf sl.inForce.priority) else s1

/-- R71, R72: the slot reaches FENCED: FENCE_COMPLETE is filed, STATE_CHANGE raised, and a FENCE order in progress ends
DONE (R74, R157). -/
def State.reachFenced (s : State) (i : SlotId) : State :=
  let sl := s.slots[i]
  let elapsed := s.now - sl.cu.tally.start
  let a := countDword sl.cu.tally.completions
  let b := countDword sl.cu.tally.requests
  ((((s.setSlotState i .fenced).fileIncident i .fenceComplete (.cause sl.cu.cause) (some a) (some b) (some elapsed)).raise
    i .stateChange).endOrderOf i .fence .done (.cause sl.cu.cause) a b elapsed)

/-- R71: the closure of a fence. -/
def State.closeFence (s : State) (i : SlotId) : State :=
  let r := (s.onCu i fun c => { c with grace := none }).closeAll i
  ((r.state.addTally i r.completions r.requests).reachFenced i).applyFollowUp i

/-- R68: a fence begins with a cause. -/
def State.beginFence (s : State) (i : SlotId) (cause : FenceCause) : State :=
  let s1 := s.onCu i fun c =>
    { c with st := .fencing, cause := cause, tally := { start := s.now, completions := 0, requests := 0 } }
  let r := (s1.announceLeave i).drainHold i
  let s2 := r.state.addTally i r.completions r.requests
  let sl := s2.slots[i]
  if cause = .linkDown ∨ sl.inForce.graceUs = 0 ∨ sl.trk.openCount = 0 then s2.closeFence i
  else s2.onCu i fun c => { c with grace := some (after s2.now sl.inForce.graceUs.toNat) }

/-- R70: the grace ends on an empty table. -/
def State.endGraceIfEmpty (s : State) (i : SlotId) : State :=
  let sl := s.slots[i]
  if sl.cu.st = .fencing ∧ sl.cu.grace.isSome ∧ sl.trk.openCount = 0 then s.closeFence i else s

/-- R64, R65: the Containment Unit takes the oldest reported trigger: a fence begins if the slot is ACTIVE in the period in
which it was reported; otherwise the trigger is discarded. -/
def State.takeTrigger (s : State) (i : SlotId) : State :=
  let sl := s.slots[i]
  match sl.cu.triggers with
  | [] => s
  | t :: rest =>
    let s1 := s.onCu i fun c => { c with triggers := rest }
    if sl.cu.st = .active ∧ t.period = sl.cu.period then s1.beginFence i t.cause else s1

/-- R127: a link loss of a RECOVERING slot at the sequencer: in SETTLING or RESTORING the attempt fails. -/
def State.planLinkLoss (s : State) (i : SlotId) : State :=
  match s.plan with
  | none => s
  | some p =>
    if p.slot = i ∧ (p.phase = .settling ∨ p.phase = .restoring) then
      s.planEvent p fun p s => s.failAttempt p .linkLost none
    else s

/-- R66: the Containment Unit takes the report of a link loss, by the slot state, in the event of the loss (DEDUCED,
log 22). -/
def State.reportLinkLoss (s : State) (i : SlotId) : State :=
  match (s.slots[i]).cu.st with
  | .active => s.beginFence i .linkDown
  | .fencing => if (s.slots[i]).cu.grace.isSome then s.closeFence i else s
  | .recovering => s.planLinkLoss i
  | .empty => s
  | .offline => s
  | .fenced => s
  | .retired => s

/-- R67: a card ERROR_FATAL message that has been forwarded: FATAL_MESSAGE is filed, and the slot fences if fence_on_fatal
is on, in the event of the message (DEDUCED, log 22). -/
def State.takeFatalMessage (s : State) (i : SlotId) (requesterId : BitVec 16) : State :=
  let on := (s.slots[i]).inForce.fenceOnFatal != 0#8
  let s1 := s.fileIncident i .fatalMessage .none (some (requesterId.setWidth 32)) (some (if on then 1 else 0)) none
  if on then s1.beginFence i .fatalMessage else s1

end Sys2Proof.Machine
end

