-- ==== Sys2Proof/Machine/OrderOps.lean ====
section
/-! DEFINITION. The Order Unit: hand-over (R153, R154), acceptance (R155), APPLY (R160, R161) and the cancel (R158). -/

namespace Sys2Proof.Machine

open Sys2Proof

/-- R155: an order refused with REFUSED_STATE ends at once with the slot state and the link state. -/
def State.refuseState (s : State) (i : SlotId) (reason : Reason) : State :=
  let sl := s.slots[i]
  s.endOrder i .refusedState reason (stateDword sl.cu.st) (sl.port.link.code.setWidth 32) 0

/-! ### APPLY (R160, R161) -/

/-- A value brought within a range. -/
def clampTo {w : Nat} (lo hi : Nat) (v : BitVec w) : BitVec w := BitVec.ofNat w (min (max v.toNat lo) hi)

/-- R161: every setting brought within its range; the routing fields and pace_ns hold no value outside theirs. -/
def SlotSettings.clamped (c : SlotSettings) : SlotSettings :=
  { c with
    windowReadUs := clampTo 1 65535 c.windowReadUs
    windowConfigUs := clampTo 1 65535 c.windowConfigUs
    stretch := clampTo 0 3 c.stretch
    watchPeriod := clampTo 0 63 c.watchPeriod
    timeoutAction := clampTo 0 1 c.timeoutAction
    timeoutTolerance := clampTo 1 15 c.timeoutTolerance
    standinMode := clampTo 0 1 c.standinMode
    fenceOnFatal := clampTo 0 1 c.fenceOnFatal
    autoRecover := clampTo 0 1 c.autoRecover
    priority := clampTo 0 1 c.priority
    attemptLimit := clampTo 1 7 c.attemptLimit
    holdMs := clampTo 1 255 c.holdMs
    graceUs := clampTo 0 10000 c.graceUs
    trainLimitMs := clampTo 1 1000 c.trainLimitMs
    settleLimitMs := clampTo 1 2000 c.settleLimitMs
    settleRetryUs := clampTo 100 10000 c.settleRetryUs }

/-- R161: the number of settings whose cell value the clamping changed. -/
def clampedCount (c d : SlotSettings) : Nat :=
  [c.windowReadUs != d.windowReadUs, c.windowConfigUs != d.windowConfigUs, c.stretch != d.stretch,
    c.watchPeriod != d.watchPeriod, c.timeoutAction != d.timeoutAction, c.timeoutTolerance != d.timeoutTolerance,
    c.standinMode != d.standinMode, c.fenceOnFatal != d.fenceOnFatal, c.autoRecover != d.autoRecover,
    c.priority != d.priority, c.attemptLimit != d.attemptLimit, c.holdMs != d.holdMs, c.graceUs != d.graceUs,
    c.trainLimitMs != d.trainLimitMs, c.settleLimitMs != d.settleLimitMs, c.settleRetryUs != d.settleRetryUs].countP id

/-- R160: the slot states in which routing is locked. -/
def SlotState.routingLocked : SlotState → Bool
  | .active => true
  | .fencing => true
  | .recovering => true
  | .empty => false
  | .offline => false
  | .fenced => false
  | .retired => false

/-- R160: whether two settings cover the same blocks and the same buses. -/
def sameRouting (a b : SlotSettings) : Bool := windowOf a == windowOf b && busRangeOf a == busRangeOf b

/-- R160: the lowest-numbered other slot whose in-force window shares a block with the window of `c`. -/
def State.windowOverlap (s : State) (i : SlotId) (c : SlotSettings) : Option SlotId :=
  (List.finRange 8).find? fun k => k != i && overlaps (windowOf c) (windowOf (s.slots[k]).inForce)

/-- R160: the lowest-numbered other slot whose in-force bus range shares a bus with that of `c`. -/
def State.busOverlap (s : State) (i : SlotId) (c : SlotSettings) : Option SlotId :=
  (List.finRange 8).find? fun k => k != i && overlaps (busRangeOf c) (busRangeOf (s.slots[k]).inForce)

/-- R161: an APPLY that passes the routing check: the clamped values go back into the cells and into force. -/
def State.takeSettings (s : State) (i : SlotId) : State :=
  s.onSlot i fun sl => { sl with cells := sl.cells.clamped, inForce := sl.cells.clamped }

/-- R160, R161: an APPLY order. -/
def State.orderApply (s : State) (i : SlotId) : State :=
  let sl := s.slots[i]
  if sl.cu.st.routingLocked && !sameRouting sl.cells sl.inForce then
    s.endOrder i .refusedSettings .routingLocked (stateDword sl.cu.st) 0 0
  else match s.windowOverlap i sl.cells with
    | some k => s.endOrder i .refusedSettings .routingOverlap (countDword k.val) 0 0
    | none => match s.busOverlap i sl.cells with
      | some k => s.endOrder i .refusedSettings .routingOverlap (countDword k.val) 1 0
      | none =>
        (s.takeSettings i).endOrder i .done .none (countDword (clampedCount sl.cells sl.cells.clamped)) 0 0

/-! ### The other orders (R155) -/

/-- R140, R155: a CAPTURE order. -/
def State.orderCapture (s : State) (i : SlotId) : State :=
  if (s.slots[i]).cu.st = .active then s.startCapture i else s.refuseState i .wrongState

/-- R74, R155: a FENCE order. -/
def State.orderFence (s : State) (i : SlotId) : State :=
  match (s.slots[i]).cu.st with
  | .active => s.reportTrigger i .order
  | .fencing => s
  | .fenced => s.endOrder i .already (.cause (s.slots[i]).cu.cause) 0 0 0
  | .empty => s.refuseState i .wrongState
  | .offline => s.refuseState i .wrongState
  | .recovering => s.refuseState i .wrongState
  | .retired => s.refuseState i .wrongState

/-- The slot's follow-up takes a value (R74). -/
def State.setFollowUp (s : State) (i : SlotId) (f : FollowUp) : State := s.onCu i fun c => { c with followUp := f }

/-- R74, R113, R114, R155: a RECOVER order at a level. -/
def State.orderRecover (s : State) (i : SlotId) (level : Level) : State :=
  match (s.slots[i]).cu.st with
  | .offline => s.joinQueue i level
  | .fenced => s.joinQueue i level
  | .active => (s.setFollowUp i (.recover level)).reportTrigger i .order
  | .fencing => s.setFollowUp i (.recover level)
  | .recovering => s.adopt i level
  | .empty => s.refuseState i .wrongState
  | .retired => s.refuseState i .wrongState

/-- R76, R155: a LIFT order. -/
def State.orderLift (s : State) (i : SlotId) : State :=
  let sl := s.slots[i]
  if sl.cu.st = .fenced then
    if sl.port.link = .up then
      ((s.becomeActive i).raise i .stateChange).endOrder i .done .none (sl.cu.cause.code.setWidth 32) 0 0
    else s.refuseState i .linkNotUp
  else s.refuseState i .wrongState

/-- R74, R77, R134, R155: a RETIRE order. -/
def State.orderRetire (s : State) (i : SlotId) : State :=
  match (s.slots[i]).cu.st with
  | .offline => s.retireByOrder i .offline
  | .fenced => s.retireByOrder i .fenced
  | .recovering => ((s.giveUp i false).retireByOrder i .recovering).grantIfIdle
  | .active => (s.setFollowUp i .retire).reportTrigger i .order
  | .fencing => s.setFollowUp i .retire
  | .retired => s.endOrder i .already .none (stateDword .retired) 0 0
  | .empty => s.refuseState i .wrongState

/-- R78, R155: a REINSTATE order. -/
def State.orderReinstate (s : State) (i : SlotId) : State :=
  if (s.slots[i]).cu.st = .retired then
    (((s.setSlotState i .offline).setAttempt i 0).raise i .stateChange).endOrder i .done .none 0 0 0
  else s.refuseState i .wrongState

/-- R155: the level of a RECOVER by its priority parameter; DEFAULT, and any value above 2 (R153), gives the slot's
priority setting in force. -/
def orderLevel (parameter : Byte) (inForce : SlotSettings) : Level :=
  if parameter = 1 then .routine else if parameter = 2 then .urgent else levelOf inForce.priority

/-- R155: the order just handed over is judged by its code. -/
def State.judgeOrder (s : State) (i : SlotId) (code : Byte) (level : Level) : State :=
  match orderOf code with
  | some .apply => s.orderApply i
  | some .capture => s.orderCapture i
  | some .fence => s.orderFence i
  | some .recover => s.orderRecover i level
  | some .lift => s.orderLift i
  | some .retire => s.orderRetire i
  | some .reinstate => s.orderReinstate i
  | none => s.endOrder i .refusedCode .unknownCode (code.setWidth 32) 0 0

/-! ### Hand-over (R153, R154) -/

/-- The Order Cell after the stores of a write, the owner byte apart (R153). -/
def OrderCell.store (c : OrderCell) (w : CellWrite) : OrderCell :=
  { c with
    code := w.code.getD c.code
    number := (w.numberHigh.getD (c.number.extractLsb' 8 8)) ++ (w.numberLow.getD (c.number.extractLsb' 0 8))
    priority := w.priority.getD c.priority }

/-- Whether a write touches a byte of the Order Cell. -/
def touchesCell (w : CellWrite) : Bool :=
  w.owner.isSome || w.code.isSome || w.numberLow.isSome || w.numberHigh.isSome || w.priority.isSome || w.other

/-- The order that a cell hands over, at the slot state of that moment (R153). -/
def Slot.newOrder (sl : Slot) (c : OrderCell) : OrderInProgress :=
  { code := c.code, number := c.number, level := orderLevel c.priority sl.inForce, taken := sl.cu.st }

/-- R153: the Order Unit takes the order: the owner is held at CONTROLLER, order_collision and ORDER_DONE are cleared,
and the order is judged. -/
def State.takeOrder (s : State) (i : SlotId) (c : OrderCell) : State :=
  let o := (s.slots[i]).newOrder c
  ((s.onOrderUnit i fun u =>
    { u with cell := { c with owner := .controller }, order := some o, collision := false }).clearAttention i
    .orderDone).judgeOrder i o.code o.level

/-- R153, R154: a software write to the Order Cell: stored while the owner is SOFTWARE, a hand-over if it writes 1 to the
owner byte; discarded with order_collision set while the owner is CONTROLLER. -/
def State.writeOrderCell (s : State) (i : SlotId) (w : CellWrite) : State :=
  let u := (s.slots[i]).ou
  if touchesCell w then
    match u.cell.owner with
    | .controller => s.onOrderUnit i fun u => { u with collision := true }
    | .software =>
      let c := u.cell.store w
      if w.owner = some 1 then s.takeOrder i c else s.onOrderUnit i fun u => { u with cell := c }
  else s

/-- The write that hands over an order in one request: code, order number, priority parameter and owner. -/
def handOverWrite (code : Byte) (number : BitVec 16) (priority : Byte) : CellWrite :=
  { owner := some 1, code := some code, numberLow := some (number.extractLsb' 0 8),
    numberHigh := some (number.extractLsb' 8 8), priority := some priority, other := false }

/-! ### The cancel (R158) -/

/-- R131: a cancel of a RECOVER whose slot is QUEUED. -/
def State.cancelQueued (s : State) (i : SlotId) : State :=
  let sl := s.slots[i]
  let st : SlotState := if sl.port.line = .asserted then .offline else .fenced
  ((((s.setQueue i none).setSlotState i st).setAttempt i 0).raise i .stateChange).endOrder i .cancelled .none
    (countDword sl.attempt) 0 0

/-- R158: a cancel taken for a RECOVER order in progress. -/
def State.cancelRecover (s : State) (i : SlotId) : State :=
  let sl := s.slots[i]
  match sl.cu.st with
  | .active => (s.setFollowUp i .none).endOrder i .cancelled .none (countDword sl.attempt) 0 0
  | .fencing => (s.setFollowUp i .none).endOrder i .cancelled .none (countDword sl.attempt) 0 0
  | .recovering =>
    if (s.queue[i]).isSome then s.cancelQueued i
    else match s.plan with
      | some p => if p.slot = i then s.setPlan (some { p with stop := true }) else s
      | none => s
  | .empty => s
  | .offline => s
  | .fenced => s
  | .retired => s

/-- R158: the Order Unit takes the latched cancel: the cell returns to 0 and the cancel acts on the order in progress. -/
def State.takeCancel (s : State) (i : SlotId) : State :=
  let u := (s.slots[i]).ou
  if u.cancel then
    let s1 := s.onOrderUnit i fun u => { u with cancel := false }
    if u.orderIs .capture then s1.cancelCapture i else if u.orderIs .recover then s1.cancelRecover i else s1
  else s

end Sys2Proof.Machine
end

