-- ==== Sys2Proof/Machine/ResetOps.lean ====
section
/-! DEFINITION. The hierarchy reset (R165, R166 and the rules of the blocks it lists) and APPLY_DEVICE (R163). -/

namespace Sys2Proof.Machine

open Sys2Proof

/-- R42, R60: a Tracker at a hierarchy reset. -/
def Tracker.hierarchyReset (t : Tracker) : Tracker :=
  let free (e : OrtEntry) : OrtEntry := if e.body.isSome then { gen := e.gen + 1, body := none } else e
  { ort := mapVector free t.ort, age := [], hold := [], waiting := none, watch := .idle, answered := 0 }

/-- R98: a Return Map at a hierarchy reset. -/
def freedReturnMap (m : Vector ReturnEntry 16) : Vector ReturnEntry 16 :=
  let free (e : ReturnEntry) : ReturnEntry := if e.body.isSome then { gen := e.gen + 1, body := none } else e
  mapVector free m

/-- R63: a Containment Unit at a hierarchy reset. Reported triggers stay and are discarded when taken, since their period
of ACTIVE has ended (R65). -/
def Containment.hierarchyReset (c : Containment) : Containment :=
  { c with
    st := if c.st = .empty then .empty else .offline
    cause := .none
    grace := none
    followUp := .none
    tally := .reset }

/-- R110: a Slot Port at a hierarchy reset: the outbound buffer is emptied, the waiting card read is discarded, and, where
the slot is not EMPTY, the line is asserted. -/
def SlotPort.hierarchyReset (q : SlotPort) (occupied : Bool) : SlotPort :=
  let q' := { q with outbound := [], waitingRead := none }
  if occupied ∧ q.line = .released then { q' with line := .asserted, link := .down, epoch := q.epoch + 1 } else q'

/-- R148, R157, R166: an Order Unit at a hierarchy reset: the order in progress ends ABORTED with no details, a CAPTURE too,
though R157's row for CAPTURE gives details for any outcome (DESIGN CHOICE, log 37); a latched cancel is dropped and
order_collision is 0. -/
def OrderUnit.hierarchyReset (u : OrderUnit) (now : Tick) : OrderUnit :=
  { u.finish now .aborted .none 0 0 0 with cancel := false, collision := false }

/-- A slot at a hierarchy reset. The Context Store, the Incident List, the settings and the set_aside count are kept. -/
def Slot.hierarchyReset (sl : Slot) (now : Tick) : Slot :=
  { sl with
    cu := sl.cu.hierarchyReset
    trk := sl.trk.hierarchyReset
    rmap := freedReturnMap sl.rmap
    port := sl.port.hierarchyReset (sl.cu.st != .empty)
    ou := sl.ou.hierarchyReset now
    capture := none
    attempt := 0
    ctr := { sl.ctr with
      postedDiscarded := satAdd sl.ctr.postedDiscarded (sl.port.outbound.countP CardPacket.isPosted) } }

/-- What every form of the hierarchy reset does (R166): every slot, the Recovery Queue and the sequencer (R135), ATTN and
ATTN_ENABLE (R167, R169). NOW, the counters, the serial and the settings are kept. -/
def State.hierarchyReset (s : State) : State :=
  { s with
    attn := 0, attnEnable := 0, plan := none, queue := Vector.replicate 8 none,
    slots := mapVector (fun sl => sl.hierarchyReset s.now) s.slots }

/-- R165: the two link forms: the configuration space returns to its power-on values and the requests in the link are
lost with it (R42). -/
def State.linkReset (s : State) : State :=
  { s.hierarchyReset with mgmt := .powerOn, hostQueue := [], withheld := none }

/-- R165: the DEVICE_CONTROL form: a request that waits in the link is decided anew after the reset. -/
def State.commandedReset (s : State) : State :=
  let s' := s.hierarchyReset
  if s'.withheld.isSome then s'.retakeFirst else s'

/-- R163: APPLY_DEVICE clamps the Device Settings, writes them back to the cells and puts them in force. -/
def State.applyDevice (s : State) : State :=
  let d : DeviceSettings :=
    { ceilingUs := clampTo 100 4194303 s.deviceCells.ceilingUs, returnLimitMs := clampTo 1 1000 s.deviceCells.returnLimitMs }
  { s with deviceCells := d, device := d }

end Sys2Proof.Machine
end

