-- ==== Sys2Proof/Machine/SwaWrite.lean ====
section
/-! DEFINITION. Software writes to the Shared Work Area (R150 to R154, R158, R171): every byte by the rule of its region,
then the actions the write asks for. -/

namespace Sys2Proof.Machine

open Sys2Proof

/-- The enabled bytes of a write with their BAR offsets, less those past the end of the 64 KiB (R150). -/
def enabledOffsets (w : WindowWrite) : List (Nat × Byte) :=
  (w.bytes.zipIdx).filterMap fun (b, k) =>
    b.bind fun v => if w.offset + k < 65536 then some (w.offset + k, v) else none

/-- R171: a write to the state field of an incident record: 0 makes it FREE, any other value FILLED. -/
def State.writeIncidentState (s : State) (i : SlotId) (k : Fin 8) (v : Byte) : State :=
  s.onSlot i fun sl =>
    { sl with inc.records := sl.inc.records.set k { sl.inc.records[k] with filled := v != 0#8 } }

/-- R158: a write to the Cancel Cell: 1 latches a cancel, any other value is discarded. -/
def State.writeCancel (s : State) (i : SlotId) (v : Byte) : State :=
  if v = 1 then s.onOrderUnit i fun u => { u with cancel := true } else s

/-- R137, R139: one byte of a Restore Record is stored. -/
def State.writeRecordByte (s : State) (i : SlotId) (k : Fin 64) (off : Nat) (v : Byte) : State :=
  s.onSlot i fun sl =>
    { sl with ctx.records :=
        sl.ctx.records.set k (RestoreRecord.ofBytes ((sl.ctx.records[k]).bytes.set off v)) }

/-- R151: one byte of a slot page is stored by the rule of its region; the Order Cell is written as a whole
(`cellWriteOf`). -/
def State.storePageByte (s : State) (i : SlotId) (off : Nat) (v : Byte) : State :=
  if off < 0x010 then s
  else if off < 0x020 then (if off = 0x010 then s.writeCancel i v else s)
  else if off < 0x040 then s
  else if off < 0x0C0 then
    s.onSlot i fun sl => { sl with cells := SlotSettings.ofBytes (sl.cells.bytes.set (off - 0x040) v) }
  else if off < 0x140 then s
  else if h : 0x140 ≤ off ∧ off < 0x240 then
    if (off - 0x140) % 32 = 0 then s.writeIncidentState i ⟨(off - 0x140) / 32, by omega⟩ v else s
  else if off < 0x260 then
    s.onSlot i fun sl => { sl with ctx.header := ContextHeader.ofBytes (sl.ctx.header.bytes.set (off - 0x240) v) }
  else if h : 0x260 ≤ off ∧ off < 0x660 then
    s.writeRecordByte i ⟨(off - 0x260) / 16, by omega⟩ ((off - 0x260) % 16) v
  else s

/-- The byte enables and the value of a one-byte write to a 32-bit register. -/
def byteOfRegister (off : Nat) (v : Byte) : BitVec 4 × Dword :=
  (1#4 <<< off, (v.setWidth 32 : Dword) <<< (8 * off))

/-- R151, R152: one byte of the device area is stored by the rule of its region; DEVICE_CONTROL acts as a whole
(`State.deviceControl`). -/
def State.storeDeviceByte (s : State) (a : Nat) (v : Byte) : State :=
  if a < 0x0004 then s.writeAttn (byteOfRegister a v).1 (byteOfRegister a v).2
  else if a < 0x0008 then s.writeAttnEnable (byteOfRegister (a - 4) v).1 (byteOfRegister (a - 4) v).2
  else if 0x0120 ≤ a ∧ a < 0x0126 then
    { s with deviceCells := DeviceSettings.ofBytes (s.deviceCells.bytes.set (a - 0x0120) v) }
  else s

/-- R150: one byte of the window is stored. -/
def State.storeByte (s : State) (a : Nat) (v : Byte) : State :=
  if a < 0x1000 then s.storeDeviceByte a v
  else match pageOf a with
    | some (i, off) => s.storePageByte i off v
    | none => s

/-- The bytes of a write that fall in the Order Cell of slot `i`. -/
def cellWriteOf (ws : List (Nat × Byte)) (i : SlotId) : CellWrite :=
  let page := 0x1000 + i.val * 0x1000
  let at' (off : Nat) : Option Byte := (ws.find? fun w => w.1 == page + off).map (·.2)
  { owner := at' 0, code := at' 1, numberLow := at' 2, numberHigh := at' 3, priority := at' 4,
    other := ws.any fun w => decide (page + 5 ≤ w.1) && decide (w.1 < page + 16) }

/-- R152: what a write asks of DEVICE_CONTROL: APPLY_DEVICE first and the hierarchy reset after it. -/
def State.deviceControl (s : State) (v : Byte) : State :=
  let s1 := if v.getLsbD 0 then s.applyDevice else s
  if v.getLsbD 1 then s1.commandedReset else s1

/-- The action of the DEVICE_CONTROL byte of a write, if the write enables it. -/
def State.deviceControlOf (s : State) (ws : List (Nat × Byte)) : State :=
  match ws.find? fun w => w.1 == 0x000C with
  | some (_, v) => s.deviceControl v
  | none => s

/-- R150: a host write to the window is taken whole: every enabled byte is stored, then DEVICE_CONTROL acts, then the
Order Cells that the write touches take it, the lowest slot first (DESIGN CHOICE, log 11). -/
def State.writeWindow (s : State) (w : WindowWrite) : State :=
  let ws := enabledOffsets w
  let stored := ws.foldl (fun s w => s.storeByte w.1 w.2) s
  (List.finRange 8).foldl (fun s i => s.writeOrderCell i (cellWriteOf ws i)) (stored.deviceControlOf ws)

/-- A host MEM_WRITE to the BAR as a write to the window (R8, R150). -/
def windowWriteOf (r : MemRequest) (data : List Dword) (offset : Nat) : WindowWrite :=
  let enabled := writtenBytes r data
  { offset := offset
    bytes := (List.range (4 * data.length)).map fun k => (enabled.find? fun e => e.1 == k).map (·.2) }

end Sys2Proof.Machine
end

