-- ==== Sys2Proof/Machine/CardTraffic.lean ====
section
/-! DEFINITION. The meanings of card traffic: completions (R28 to R37), requests, posted writes and messages (R6, R15, R67),
and the hand-over of a card read that waits (R89). -/

namespace Sys2Proof.Machine

open Sys2Proof

/-! ### Card completions -/

/-- R29: the bytes delivered by a matched completion. -/
def bytesDelivered (b : OrtBody) (c : Completion) : Nat := min (bytesCarried c) b.bytesOwed

/-- R29: the excess of a matched completion. -/
def excessBytes (b : OrtBody) (c : Completion) : Nat := bytesCarried c - bytesDelivered b c

/-- R29: a SUCCESS completion that delivers nothing of what is owed is absorbed. -/
def isAbsorbed (b : OrtBody) (c : Completion) : Bool :=
  c.status == .success && bytesDelivered b c == 0 && decide (1 ≤ b.bytesOwed)

/-- R26, R30 to R32, R34: whether a matched completion closes its entry. -/
def closesEntry (b : OrtBody) (c : Completion) : Bool :=
  c.status != .success || (!isAbsorbed b c && b.bytesOwed - bytesDelivered b c == 0) || decide (1 ≤ excessBytes b c)

/-- R30: the byte count remaining of a forwarded completion. -/
def forwardedByteCount (b : OrtBody) : Nat :=
  match b.kind with
  | .memRead _ => b.bytesOwed
  | .cfgRead _ _ => 4
  | .cfgWrite _ _ _ _ => 4

/-- R30: the lower address of a forwarded completion. -/
def forwardedLowerAddress (b : OrtBody) : BitVec 7 :=
  match b.kind with
  | .memRead first => (first + BitVec.ofNat 64 (b.bytesRequested - b.bytesOwed)).setWidth 7
  | .cfgRead _ _ => 0
  | .cfgWrite _ _ _ _ => 0

/-- R30: whether the completions of a kind carry data to the host. -/
def carriesData (kind : EntryKind) : Bool :=
  match kind with
  | .memRead _ => true
  | .cfgRead _ _ => true
  | .cfgWrite _ _ _ _ => false

/-- R30, R31: the completion sent to the host for a matched completion of an UPSTREAM entry. -/
def forwardedCompletion (free : Nat) (requesterId : BitVec 16) (tag : BitVec 10) (b : OrtBody) (c : Completion) :
    Completion :=
  let stream := carriedStream c
  let n := bytesDelivered b c
  let lower := forwardedLowerAddress b
  { requesterId := requesterId, tag := tag, status := c.status, byteCount := forwardedByteCount b, lowerAddress := lower,
    data :=
      if c.status = .success ∧ carriesData b.kind = true then
        alignData free (lower.toNat % 4) (stream.take n) (stream.drop n)
      else [] }

/-- The free bytes that the forwarding of a completion uses (FREE VALUE, log 1). -/
def forwardFreeBytes (b : OrtBody) (c : Completion) : Nat :=
  let stream := carriedStream c
  let n := bytesDelivered b c
  if c.status = .success ∧ carriesData b.kind = true then
    freeBytesUsed ((forwardedLowerAddress b).toNat % 4) (stream.take n) (stream.drop n)
  else 0

/-- R30, R31: a matched completion of an UPSTREAM entry is sent to the host, unless it is absorbed; one of CONTROLLER
origin is not forwarded (R32). -/
def State.forwardMatched (s : State) (b : OrtBody) (c : Completion) : State :=
  match b.origin with
  | .controller _ => s
  | .upstream requesterId tag =>
    if isAbsorbed b c then s
    else
      { (s.emitCompletions [forwardedCompletion s.freeIndex requesterId tag b c]) with
        freeIndex := s.freeIndex + forwardFreeBytes b c }

/-- The bytes a controller read has gathered with this completion (R32). -/
def gatheredWith (b : OrtBody) (c : Completion) : List Byte :=
  match b.origin with
  | .controller _ => b.gathered ++ (carriedStream c).take (bytesDelivered b c)
  | .upstream _ _ => b.gathered

/-- R29: an entry that stays OPEN owes the bytes owed less the bytes delivered. -/
def State.keepOpen (s : State) (i : SlotId) (k : Fin 32) (b : OrtBody) (c : Completion) : State :=
  let b' := { b with bytesOwed := b.bytesOwed - bytesDelivered b c, gathered := gatheredWith b c }
  s.onTracker i fun t => { t with ort := t.ort.set k { t.ort[k] with body := some b' } }

/-- R30, R37: the closing of a host CFG_WRITE with SUCCESS makes its shadow update. -/
def State.shadowOf (s : State) (i : SlotId) (b : OrtBody) (c : Completion) : State :=
  match b.origin with
  | .controller _ => s
  | .upstream _ _ => if c.status = .success then s.shadowUpdate i b.kind else s

/-- R34: a completion with an excess is counted and filed as an overrun. -/
def State.fileOverrun (s : State) (i : SlotId) (k : Fin 32) (b : OrtBody) (c : Completion) : State :=
  if 1 ≤ excessBytes b c then
    (s.countOverrun i).fileIncident i .overrunCompletion .none (some (countDword k.val)) (some (countDword b.bytesOwed))
      (some (countDword (bytesCarried c)))
  else s

/-- R32: the result passed to the owner of a CONTROLLER entry. -/
def controllerResult (b : OrtBody) (c : Completion) : RequestResult :=
  match c.status with
  | .success => .success (ofLeBytes 32 4 (gatheredWith b c))
  | status => .refused status

/-- R32: the owner of a CONTROLLER entry that closes takes its result. -/
def State.passResult (s : State) (i : SlotId) (b : OrtBody) (c : Completion) : State :=
  match b.origin with
  | .controller o => s.ownerResult i o (controllerResult b c)
  | .upstream _ _ => s

/-- R26, R30 to R34, R37: the effect of a matched completion on its entry, the host and the owner, in this order (DEDUCED, log 13):
it is forwarded, the entry closes and is handed on or stays OPEN, the shadow update follows, an overrun is filed, and the
owner takes its result. -/
def State.takeMatched (s : State) (i : SlotId) (k : Fin 32) (b : OrtBody) (c : Completion) : State :=
  let s1 := s.forwardMatched b c
  if closesEntry b c then
    ((((s1.freeEntry i k).shadowOf i b c).fileOverrun i k b c).passResult i b c)
  else s1.keepOpen i k b c

/-- R36, R57, R70: after a matched completion, progress is reported in ACTIVE and FENCING, and a grace ends on an empty
table. `st` is the slot state in which the completion was taken. -/
def State.afterMatched (s : State) (i : SlotId) (st : SlotState) : State :=
  match st with
  | .active => s.reportProgress i
  | .fencing => (s.reportProgress i).endGraceIfEmpty i
  | .empty => s
  | .offline => s
  | .fenced => s
  | .recovering => s
  | .retired => s

/-- R28, R33: a card completion is matched by its downstream tag; one that does not match is late. The link state is not
asked (DEDUCED, log 28). -/
def State.cardCompletion (s : State) (i : SlotId) (c : Completion) : State :=
  let k := tagIndex c.tag
  let e := (s.slots[i]).trk.ort[k]
  match e.body with
  | some b =>
    if c.tag = downstreamTag e.gen k then (s.takeMatched i k b c).afterMatched i (s.slots[i]).cu.st else s.countLate i
  | none => s.countLate i

/-! ### Card requests and posted traffic -/

/-- R15: a card posted write or message is forwarded upstream in ACTIVE, dropped and counted in any other state. -/
def State.cardPosted (s : State) (i : SlotId) (p : HostPacket) : State :=
  if (s.slots[i]).cu.st = .active then s.emit p else s.countCardDropped i

/-- R15, R67: a card MESSAGE; a forwarded ERROR_FATAL message is then taken as R67 gives. -/
def State.cardMessage (s : State) (i : SlotId) (m : CardMessage) : State :=
  let s1 := s.cardPosted i (.message m)
  if (s.slots[i]).cu.st = .active ∧ m.cls = .errorFatal then s1.takeFatalMessage i m.requesterId else s1

/-- R6: the answer to a non-posted card request that the controller does not pass on. -/
def cardAnswer (requesterId : BitVec 16) (tag : BitVec 10) : Completion :=
  { requesterId := requesterId, tag := tag, status := .unsupported, byteCount := 4, lowerAddress := 0, data := [] }

/-- R6: a card configuration request or unrecognised request. -/
def State.cardOther (s : State) (i : SlotId) (requesterId : BitVec 16) (tag : BitVec 10) (nonPosted : Bool) : State :=
  if (s.slots[i]).cu.st = .active ∧ nonPosted = true then s.pushOutbound i (.answer (cardAnswer requesterId tag))
  else s.countCardDropped i

/-- R89: while a card read waits at the Slot Port the card has no non-posted credit, so that no further non-posted request
of its can arrive (DEDUCED, log 9). -/
def State.noCardCredit (s : State) (i : SlotId) : Bool := (s.slots[i]).port.waitingRead.isSome

/-- CARD_COMPLETION (R28). -/
def execCardCompletion (i : SlotId) (c : Completion) (s : State) : Host.Outcome State Fault Refusal :=
  event (fun s => s.cardCompletion i c) s

/-- CARD_MEM_READ (R15). -/
def execCardMemRead (i : SlotId) (r : MemRequest) (s : State) : Host.Outcome State Fault Refusal :=
  event (fun s => if s.noCardCredit i then s else s.takeCardRead i r) s

/-- CARD_MEM_WRITE (R15). -/
def execCardMemWrite (i : SlotId) (r : MemRequest) (data : List Dword) (s : State) : Host.Outcome State Fault Refusal :=
  event (fun s => s.cardPosted i (.memWrite r data)) s

/-- CARD_MESSAGE (R15). -/
def execCardMessage (i : SlotId) (m : CardMessage) (s : State) : Host.Outcome State Fault Refusal :=
  event (fun s => s.cardMessage i m) s

/-- CARD_CONFIG_REQUEST (R6). -/
def execCardConfigRequest (i : SlotId) (requesterId : BitVec 16) (tag : BitVec 10) (nonPosted : Bool) (s : State) :
    Host.Outcome State Fault Refusal :=
  event (fun s => if nonPosted && s.noCardCredit i then s else s.cardOther i requesterId tag nonPosted) s

/-- CARD_READ_HANDOVER (R89): the waiting read is handed over once an entry is FREE or the slot is not ACTIVE; until then
it stays. -/
def execCardReadHandover (i : SlotId) (s : State) : Host.Outcome State Fault Refusal :=
  event (fun s => s.handOverRead i) s

end Sys2Proof.Machine
end

