-- ==== Sys2Proof/Machine/HostTraffic.lean ====
section
/-! DEFINITION. The meanings of host traffic: requests (R8 to R14, R23), messages (R5, R10), completions (R90 to R93), and
the retaking of a request that waits in the link (R23). -/

namespace Sys2Proof.Machine

open Sys2Proof

/-- R14: a host posted request of a slot: forwarded to the card in ACTIVE, discarded and counted in any other state.
R14 says that a MEM_WRITE keeps its requester id and that a MESSAGE keeps its class and routing; the requester id of a
forwarded MESSAGE it leaves open. DESIGN CHOICE (log 38), unsafe: the packet goes to the card as it came, so a MESSAGE keeps
the host's requester id. -/
def State.slotPosted (s : State) (i : SlotId) (p : CardPacket) : State :=
  if (s.slots[i]).cu.st = .active then s.pushOutbound i p else s.countPostedDiscarded i 1

/-- R8, R9, R14: a host MEM_WRITE. -/
def State.hostMemWrite (s : State) (r : MemRequest) (data : List Dword) : State :=
  match s.memTarget r.address with
  | .window => s.writeWindow (windowWriteOf r data ((s.barOffset r.address).getD 0))
  | .slot i => s.slotPosted i (.memWrite r data)
  | .management => s.countUnrouted
  | .unrouted => s.countUnrouted

/-- R5, R10, R14: a host MESSAGE: taken and discarded by the controller, routed to one slot, or copied to every slot.
DESIGN CHOICE (log 38), unsafe: every message forwarded carries the host's requester id. -/
def State.hostMessage (s : State) (m : HostMessage) : State :=
  match m.routing with
  | .toController => s
  | .toBus bus =>
    match s.busSlot bus with
    | some i => s.slotPosted i (.message m)
    | none => s.countUnrouted
  | .broadcast => (List.finRange 8).foldl (fun s i => s.slotPosted i (.message m)) s

/-- R90: the bytes counted by a matched host completion. -/
def bytesCounted (c : Completion) (b : ReturnBody) : Nat := min (bytesCarried c) b.bytesOwed

/-- R91, R92: a matched host completion is forwarded in ACTIVE under the card's own requester id and tag, and absorbed
and counted in any other state; its bytes are counted, and the entry is freed on a status other than SUCCESS or when no
byte is owed. -/
def State.returnMatched (s : State) (i : SlotId) (k : Fin 16) (b : ReturnBody) (c : Completion) : State :=
  let owed := b.bytesOwed - bytesCounted c b
  let s1 :=
    if (s.slots[i]).cu.st = .active then
      s.pushOutbound i (.completion { c with requesterId := b.requesterId, tag := b.tag })
    else s.countStale i
  if c.status ≠ .success ∨ owed = 0 then s1.freeReturn i k
  else s1.onSlot i fun sl =>
    { sl with rmap := sl.rmap.set k { sl.rmap[k] with body := some { b with bytesOwed := owed } } }

/-- R90 to R93: a host completion is judged by the Return Map of the slot its tag names. -/
def State.hostCompletion (s : State) (c : Completion) : State :=
  let i := returnSlot c.tag
  let k := returnIndex c.tag
  let e := (s.slots[i]).rmap[k]
  match e.body with
  | some b => if e.gen = returnGen c.tag then s.returnMatched i k b c else s.countStale i
  | none => s.countStale i

/-- HOST_MEM_READ (R13). -/
def execHostMemRead (r : MemRequest) (s : State) : Host.Outcome State Fault Refusal :=
  event (fun s => s.arrive (.known (.memRead r))) s

/-- HOST_MEM_WRITE (R14). -/
def execHostMemWrite (r : MemRequest) (data : List Dword) (s : State) : Host.Outcome State Fault Refusal :=
  event (fun s => s.hostMemWrite r data) s

/-- HOST_CFG_READ (R10). -/
def execHostCfgRead (r : CfgRequest) (s : State) : Host.Outcome State Fault Refusal :=
  event (fun s => s.arrive (.known (.cfgRead r))) s

/-- HOST_CFG_WRITE (R10). -/
def execHostCfgWrite (r : CfgRequest) (data : Dword) (s : State) : Host.Outcome State Fault Refusal :=
  event (fun s => s.arrive (.known (.cfgWrite r data))) s

/-- HOST_MESSAGE (R14). -/
def execHostMessage (m : HostMessage) (s : State) : Host.Outcome State Fault Refusal :=
  event (fun s => s.hostMessage m) s

/-- HOST_UNRECOGNISED_REQUEST (R6): answered UNSUPPORTED if non-posted, discarded if posted. -/
def execHostUnrecognisedRequest (requesterId : BitVec 16) (tag : BitVec 10) (nonPosted : Bool) (s : State) :
    Host.Outcome State Fault Refusal :=
  event (fun s => if nonPosted then s.arrive (.unrecognised requesterId tag) else s.countUnrouted) s

/-- HOST_COMPLETION (R90). -/
def execHostCompletion (c : Completion) (s : State) : Host.Outcome State Fault Refusal :=
  event (fun s => s.hostCompletion c) s

/-- WAITING_HOST_REQUEST_RETAKEN (R23): the first request in the link is decided anew; nothing happens where no request
waits, and a request that must still wait is left in the link. -/
def execWaitingHostRequestRetaken (s : State) : Host.Outcome State Fault Refusal := event State.retakeFirst s

end Sys2Proof.Machine
end

