-- ==== Sys2Proof/Machine/OrderCommands.lean ====
section
/-! DEFINITION. The meanings of the orders: each command is the software write that hands the order over (R153). -/

namespace Sys2Proof.Machine

open Sys2Proof

/-- The hand-over of an order with a code, number and priority parameter, in one request (DEDUCED, log 24). -/
def State.handOver (s : State) (i : SlotId) (code : Byte) (number : BitVec 16) (priority : Byte) : State :=
  s.writeOrderCell i (handOverWrite code number priority)

/-- ORDER_APPLY (R160). -/
def execOrderApply (i : SlotId) (number : BitVec 16) (priority : Byte) (s : State) : Host.Outcome State Fault Refusal :=
  event (fun s => s.handOver i OrderCode.apply.code number priority) s

/-- ORDER_CAPTURE (R140). -/
def execOrderCapture (i : SlotId) (number : BitVec 16) (priority : Byte) (s : State) :
    Host.Outcome State Fault Refusal :=
  event (fun s => s.handOver i OrderCode.capture.code number priority) s

/-- ORDER_FENCE (R74). -/
def execOrderFence (i : SlotId) (number : BitVec 16) (priority : Byte) (s : State) : Host.Outcome State Fault Refusal :=
  event (fun s => s.handOver i OrderCode.fence.code number priority) s

/-- ORDER_RECOVER (R113). -/
def execOrderRecover (i : SlotId) (number : BitVec 16) (priority : Byte) (s : State) :
    Host.Outcome State Fault Refusal :=
  event (fun s => s.handOver i OrderCode.recover.code number priority) s

/-- ORDER_LIFT (R76). -/
def execOrderLift (i : SlotId) (number : BitVec 16) (priority : Byte) (s : State) : Host.Outcome State Fault Refusal :=
  event (fun s => s.handOver i OrderCode.lift.code number priority) s

/-- ORDER_RETIRE (R77). -/
def execOrderRetire (i : SlotId) (number : BitVec 16) (priority : Byte) (s : State) : Host.Outcome State Fault Refusal :=
  event (fun s => s.handOver i OrderCode.retire.code number priority) s

/-- ORDER_REINSTATE (R78). -/
def execOrderReinstate (i : SlotId) (number : BitVec 16) (priority : Byte) (s : State) :
    Host.Outcome State Fault Refusal :=
  event (fun s => s.handOver i OrderCode.reinstate.code number priority) s

/-- ORDER_UNKNOWN_CODE (R155). -/
def execOrderUnknownCode (i : SlotId) (code : Byte) (number : BitVec 16) (priority : Byte) (s : State) :
    Host.Outcome State Fault Refusal :=
  event (fun s => s.handOver i code number priority) s

end Sys2Proof.Machine
end

