-- ==== Sys2Proof/Machine/PortEvents.lean ====
section
/-! DEFINITION. The meanings of the events of a Slot Port: the presence sample with card arrival and removal (R99 to R101),
the link's coming up and its loss (R104, R105), and the drain of the outbound buffer (R17). -/

namespace Sys2Proof.Machine

open Sys2Proof

/-! ### Presence -/

/-- The level that is not `p`. -/
def Presence.other : Presence → Presence
  | .absent => .present
  | .present => .absent

/-- R99: whether a reading of the presence line brings the run count to 8, so that its level is accepted. -/
def SlotPort.accepts (q : SlotPort) (reading : Presence) : Bool :=
  q.accepted != reading && decide (7 ≤ q.runCount)

/-- R99: the debouncer after a reading: the sample timer is started anew. -/
def SlotPort.sampled (q : SlotPort) (reading : Presence) : SlotPort :=
  { q with
    accepted := if q.accepts reading then reading else q.accepted
    runCount := if q.accepted = reading ∨ q.accepts reading = true then 0 else q.runCount + 1
    sampleTimer := 1000 }

/-- R100: the arrival of a card: the slot becomes OFFLINE, CARD_PRESENT is filed and STATE_CHANGE raised. -/
def State.cardArrives (s : State) (i : SlotId) : State :=
  ((s.setSlotState i .offline).fileIncident i .cardPresent .none none none none).raise i .stateChange

/-- R101, step 1: the sequencer gives the slot up, and its attempt number becomes 0. -/
def State.removalGivesUp (s : State) (i : SlotId) : State :=
  (if (s.slots[i]).cu.st = .recovering then s.giveUp i true else s).setAttempt i 0

/-- R101, steps 3 to 5: the reset line is asserted, an order in progress ends FAILED, CARD_REMOVED is filed with the slot
state `st` and the phase `ph` in which the removal was taken and the `made` stand-ins, and STATE_CHANGE is raised. -/
def State.removalReports (s : State) (i : SlotId) (st : SlotState) (ph : Phase) (made : Nat) : State :=
  let s1 := (s.assertLine i).endOrder i .failed .cardRemoved (stateDword st) 0 0
  (s1.fileIncident i .cardRemoved (.slotState st) (some (countDword made))
    (some (countDword (s1.slots[i]).returnOpenCount)) (some (ph.code.setWidth 32))).raise i .stateChange

/-- R101, R133: the removal of a card. -/
def State.cardRemoved (s : State) (i : SlotId) : State :=
  let st := (s.slots[i]).cu.st
  let r := (s.removalGivesUp i).abruptClose i .empty
  let s1 := r.state.removalReports i st (s.phaseOf i) r.completions
  if st = .recovering then s1.grantIfIdle else s1

/-- R99: the port reads its presence line, whatever its timer's count (DESIGN CHOICE, log 7). -/
def State.presenceSample (s : State) (i : SlotId) (reading : Presence) : State :=
  let accepted := ((s.slots[i]).port).accepts reading
  let s1 :=
    { (s.onPort i fun q => q.sampled reading) with wires.presence := s.wires.presence.set i reading }
  if accepted then
    match reading with
    | .present => s1.cardArrives i
    | .absent => s1.cardRemoved i
  else s1

/-- PRESENCE_SAMPLE (R99): the sample timer of a slot expires and the presence line reads a level. -/
def execPresenceSample (i : SlotId) (reading : Presence) (s : State) : Host.Outcome State Fault Refusal :=
  event (fun s => s.presenceSample i reading) s

/-! ### The link -/

/-- R104: the link partner completes training while the link is TRAINING: the link is UP with its up tick NOW. -/
def State.linkBecomesUp (s : State) (i : SlotId) : State := s.onPort i fun q => { q with link := .up, upTick := s.now }

/-- R119, R120: the sequencer is told of the change to UP if the slot is that of the current plan. -/
def State.tellLinkUp (s : State) (i : SlotId) : State :=
  match s.plan with
  | some p => if p.slot = i ∧ p.phase = .training then s.planEvent p fun p s => s.enterSettling p else s
  | none => s

/-- LINK_UP (R104). In DOWN and in UP the partner's training changes nothing. -/
def execLinkUp (i : SlotId) (s : State) : Host.Outcome State Fault Refusal :=
  event (fun s => if (s.slots[i]).port.link = .training then (s.linkBecomesUp i).tellLinkUp i else s) s

/-- R105: the LINK_DOWN incident of a link loss. -/
def State.fileLinkDown (s : State) (i : SlotId) : State :=
  let sl := s.slots[i]
  s.fileIncident i .linkDown .none (some (countDword sl.trk.openCount)) (some (countDword sl.returnOpenCount))
    (some (s.now - sl.port.upTick))

/-- LINK_LOSS (R105): the outbound buffer is emptied, LINK_DOWN is filed and the Containment Unit takes the report (R66).
A loss that finds the link not UP has no effect. -/
def execLinkLoss (i : SlotId) (s : State) : Host.Outcome State Fault Refusal :=
  event (fun s =>
    if (s.slots[i]).port.link = .up then ((s.takeLinkDown i).fileLinkDown i).reportLinkLoss i else s) s

/-! ### The outbound buffer -/

/-- R17: the first `count` packets of the outbound buffer leave onto the link, in their order. -/
def State.drainOutbound (s : State) (i : SlotId) (count : Nat) : State :=
  let out := (s.slots[i]).port.outbound
  { (s.onPort i fun q => { q with outbound := out.drop count }) with
    wires.downstream := s.wires.downstream.set i (s.wires.downstream[i] ++ out.take count) }

/-- OUTBOUND_BUFFER_DRAIN (R17): while the link is UP the buffer drains as the card's flow-control credits allow, here
`count` packets (DESIGN CHOICE, log 19). -/
def execOutboundBufferDrain (i : SlotId) (count : Nat) (s : State) : Host.Outcome State Fault Refusal :=
  event (fun s => if (s.slots[i]).port.link = .up then s.drainOutbound i count else s) s

end Sys2Proof.Machine
end

