-- ==== Sys2Proof/Machine/ResetCommands.lean ====
section
/-! DEFINITION. The meanings of the resets and of APPLY_DEVICE. -/

namespace Sys2Proof.Machine

open Sys2Proof

/-- POWER_ON_RESET (R41 and the initial values of every block). The commands that wait, the pins and the record of what
has left the part are the outside's and stay; the count of free bytes goes on (DESIGN CHOICE, log 8). -/
def State.powerOn (s : State) : State :=
  { State.reset with wires := s.wires, freeIndex := s.freeIndex, pending := s.pending }

/-- POWER_ON_RESET (R41). -/
def execPowerOnReset (s : State) : Host.Outcome State Fault Refusal := event State.powerOn s

/-- UPSTREAM_HOT_RESET (R165). -/
def execUpstreamHotReset (s : State) : Host.Outcome State Fault Refusal := event State.linkReset s

/-- UPSTREAM_LINK_DOWN (R165). -/
def execUpstreamLinkDown (s : State) : Host.Outcome State Fault Refusal := event State.linkReset s

/-- HIERARCHY_RESET (R152, R165): a DEVICE_CONTROL write with bit 1 set, and bit 0 too if `applyToo`. -/
def execHierarchyReset (applyToo : Bool) (s : State) : Host.Outcome State Fault Refusal :=
  event (fun s => s.deviceControl (if applyToo then 3 else 2)) s

/-- APPLY_DEVICE (R152, R163): a DEVICE_CONTROL write with bit 0 set and bit 1 clear. -/
def execApplyDevice (s : State) : Host.Outcome State Fault Refusal := event (fun s => s.deviceControl 1) s

end Sys2Proof.Machine
end

