-- ==== Sys2Proof/Machine/SequencerTimers.lean ====
section
/-! DEFINITION. The meanings of the Recovery Sequencer's own events: the earliest start tick of a queue entry and the grant
(R115), and the expiries of the current plan's timers (R119, R121, R125). An expiry command whose tick is not set or not
reached has no effect (R44, DEDUCED, log 18). -/

namespace Sys2Proof.Machine

open Sys2Proof

/-- R115: the entry of slot `i` becomes eligible if its earliest start tick is reached, and R115 and R116 apply to it. -/
def State.startReached (s : State) (i : SlotId) : State :=
  match s.queue[i] with
  | some e =>
    if !e.eligible && reached s.now e.earliest then
      (s.setQueue i (some { e with eligible := true })).arbitrate
    else s
  | none => s

/-- EARLIEST_START_REACHED (R115). -/
def execEarliestStartReached (i : SlotId) (s : State) : Host.Outcome State Fault Refusal :=
  event (fun s => s.startReached i) s

/-- PLAN_GRANT (R115): the idle sequencer grants the chosen eligible entry; there is no effect while it is busy or no entry
is eligible. -/
def execPlanGrant (s : State) : Host.Outcome State Fault Refusal := event State.grantIfIdle s

/-- A timer of the current plan expires: if its tick is set and reached, the event is taken, a stop request being acted on
in its place (R132). -/
def State.onPlanTimer (s : State) (timer : Plan → Option Tick) (act : Plan → State → State) : State :=
  match s.plan with
  | some p => if due s.now (timer p) then s.planEvent p act else s
  | none => s

/-- HOLD_TICK_EXPIRY (R119). -/
def execHoldTickExpiry (s : State) : Host.Outcome State Fault Refusal :=
  event (fun s => s.onPlanTimer (·.holdTick) fun p s => s.enterTraining p) s

/-- TRAIN_LIMIT_EXPIRY (R119). -/
def execTrainLimitExpiry (s : State) : Host.Outcome State Fault Refusal :=
  event (fun s => s.onPlanTimer (·.trainLimit) fun p s => s.failAttempt p .trainTimeout none) s

/-- SETTLE_LIMIT_EXPIRY (R121). -/
def execSettleLimitExpiry (s : State) : Host.Outcome State Fault Refusal :=
  event (fun s => s.onPlanTimer (·.settleLimit) fun p s => s.failAttempt p .settleTimeout none) s

/-- R121, R125: the retry tick is cleared and the same request is issued again. -/
def State.retryRequest (s : State) (p : Plan) : State := s.planIssues { p with retryTick := none }

/-- RETRY_TICK_EXPIRY (R121, R125). -/
def execRetryTickExpiry (s : State) : Host.Outcome State Fault Refusal :=
  event (fun s => s.onPlanTimer (·.retryTick) fun p s => s.retryRequest p) s

/-- R125: the delay tick is cleared and the cursor moves on to the next record. -/
def State.delayEnds (s : State) (p : Plan) : State := s.restoreFrom { p with delayTick := none } (p.cursor + 1)

/-- DELAY_TICK_EXPIRY (R125). -/
def execDelayTickExpiry (s : State) : Host.Outcome State Fault Refusal :=
  event (fun s => s.onPlanTimer (·.delayTick) fun p s => s.delayEnds p) s

/-- RETRY_LIMIT_EXPIRY (R125). -/
def execRetryLimitExpiry (s : State) : Host.Outcome State Fault Refusal :=
  event (fun s => s.onPlanTimer (·.retryLimit) fun p s => s.failAttempt p .settleTimeout none) s

end Sys2Proof.Machine
end

