-- ==== Sys2Proof/Machine/SoftwareWrites.lean ====
section
/-! DEFINITION. The meanings of software writes to the Shared Work Area that hand over no order. -/

namespace Sys2Proof.Machine

open Sys2Proof

/-- ATTN_WRITE (R167). -/
def execAttnWrite (enables : BitVec 4) (value : Dword) (s : State) : Host.Outcome State Fault Refusal :=
  event (fun s => s.writeAttn enables value) s

/-- ATTN_ENABLE_WRITE (R169). -/
def execAttnEnableWrite (enables : BitVec 4) (value : Dword) (s : State) : Host.Outcome State Fault Refusal :=
  event (fun s => s.writeAttnEnable enables value) s

/-- ORDER_CELL_WRITE (R153, R154). -/
def execOrderCellWrite (i : SlotId) (w : CellWrite) (s : State) : Host.Outcome State Fault Refusal :=
  event (fun s => s.writeOrderCell i w) s

/-- CANCEL_CELL_WRITE (R158). -/
def execCancelCellWrite (i : SlotId) (value : Byte) (s : State) : Host.Outcome State Fault Refusal :=
  event (fun s => s.writeCancel i value) s

/-- CANCEL_TAKEN (R158). -/
def execCancelTaken (i : SlotId) (s : State) : Host.Outcome State Fault Refusal := event (fun s => s.takeCancel i) s

/-- INCIDENT_STATE_WRITE (R171). -/
def execIncidentStateWrite (i : SlotId) (k : Fin 8) (value : Byte) (s : State) : Host.Outcome State Fault Refusal :=
  event (fun s => s.writeIncidentState i k value) s

/-- SWA_WRITE (R150, R151). -/
def execSwaWrite (w : WindowWrite) (s : State) : Host.Outcome State Fault Refusal :=
  event (fun s => s.writeWindow w) s

end Sys2Proof.Machine
end

