-- ==== Sys2Proof/Machine/TrackerTimers.lean ====
section
/-! DEFINITION. The meanings of the expiries of the Request Tracker (R48 to R52, R59), of the Return Map (R95) and of the
grace timer (R70), and of the taking of a fence trigger (R64). An expiry command whose tick is not set or not reached has no
effect (R44, DEDUCED, log 18). -/

namespace Sys2Proof.Machine

open Sys2Proof

/-! ### What an expiry reports and does to the slot -/

/-- R51: timeouts rises by one and REQUEST_TIMEOUT is filed, `index` being the ORT index or 32. -/
def State.reportExpiry (s : State) (i : SlotId) (reason : Reason) (index : Nat) (b : OrtBody) : State :=
  (s.countTimeout i).fileIncident i .requestTimeout reason (some (countDword index)) (some (countDword b.bytesOwed))
    (some (b.deadline - b.arrival))

/-- R52: the answered-timeout count after an expiry under ANSWER; it does not pass 15 (R53; DEDUCED, log 26). -/
def answeredAfter (n : Nat) : Nat := min 15 (n + 1)

/-- R52: timeout_action, applied to an expiry taken in ACTIVE. -/
def State.applyTimeoutAction (s : State) (i : SlotId) : State :=
  let sl := s.slots[i]
  if sl.inForce.timeoutAction = 0 then s.reportTrigger i .timeout
  else
    let n := answeredAfter sl.trk.answered
    let s1 := s.onTracker i fun t => { t with answered := n }
    if sl.inForce.timeoutTolerance.toNat ≤ n then s1.reportTrigger i .timeout else s1

/-- R52, R69, R70: what follows an expiry that was taken in the slot state `st`: timeout_action in ACTIVE, the end of the
grace on an empty table in FENCING. -/
def State.afterExpiry (s : State) (i : SlotId) (st : SlotState) : State :=
  match st with
  | .active => s.applyTimeoutAction i
  | .fencing => s.endGraceIfEmpty i
  | .empty => s
  | .offline => s
  | .fenced => s
  | .recovering => s
  | .retired => s

/-! ### Deadlines -/

/-- Whether an origin is UPSTREAM. -/
def Origin.isUpstream : Origin → Bool
  | .upstream _ _ => true
  | .controller _ => false

/-- The deadline of entry `k` that an expiry of UPSTREAM origin takes: its fields, if it is OPEN, of that origin and
reached. -/
def State.expiredUpstream (s : State) (i : SlotId) (k : Fin 32) : Option OrtBody :=
  ((s.slots[i]).trk.ort[k]).body.filter fun b => b.origin.isUpstream && reached s.now b.deadline

/-- R48, R69: the entry is answered by stand-ins, which the fence tally counts in FENCING, and freed. -/
def State.settleExpired (s : State) (i : SlotId) (k : Fin 32) (b : OrtBody) : State :=
  let sl := s.slots[i]
  let cs := b.standIns sl.inForce.standinMode
  let s1 := (s.sendStandIns i cs).freeEntry i k
  if sl.cu.st = .fencing then s1.addTally i cs.length 1 else s1

/-- R48, R51, R52: the expiry of an UPSTREAM entry. -/
def State.expireEntry (s : State) (i : SlotId) (k : Fin 32) (b : OrtBody) : State :=
  ((s.settleExpired i k b).reportExpiry i .upstream k.val b).afterExpiry i (s.slots[i]).cu.st

/-- DEADLINE_EXPIRY (R48). -/
def execDeadlineExpiry (i : SlotId) (k : Fin 32) (s : State) : Host.Outcome State Fault Refusal :=
  event (fun s => match s.expiredUpstream i k with
    | some b => s.expireEntry i k b
    | none => s) s

/-- The item at a position of the Hold Queue, if its deadline is reached. -/
def State.expiredHeld (s : State) (i : SlotId) (position : Nat) : Option HoldItem :=
  ((s.slots[i]).trk.hold[position]?).filter fun h => reached s.now h.body.deadline

/-- R49: the item is removed and answered by stand-ins, and a request that waits in the link is decided anew (R23). -/
def State.settleHeld (s : State) (i : SlotId) (position : Nat) (h : HoldItem) : State :=
  ((s.sendStandIns i (h.body.standIns (s.slots[i]).inForce.standinMode)).onTracker i
    fun t => { t with hold := t.hold.eraseIdx position }).retakeFor i

/-- R49, R51, R52: the expiry of a Hold Queue item. -/
def State.expireHeld (s : State) (i : SlotId) (position : Nat) (h : HoldItem) : State :=
  ((s.settleHeld i position h).reportExpiry i .held 32 h.body).afterExpiry i (s.slots[i]).cu.st

/-- HELD_ITEM_EXPIRY (R49). -/
def execHeldItemExpiry (i : SlotId) (position : Nat) (s : State) : Host.Outcome State Fault Refusal :=
  event (fun s => match s.expiredHeld i position with
    | some h => s.expireHeld i position h
    | none => s) s

/-- The owner and the fields of entry `k`, if it is OPEN of CONTROLLER origin and its deadline is reached. -/
def State.expiredController (s : State) (i : SlotId) (k : Fin 32) : Option (RequestOwner × OrtBody) :=
  (((s.slots[i]).trk.ort[k]).body.filter fun b => reached s.now b.deadline).bind fun b =>
    match b.origin with
    | .controller o => some (o, b)
    | .upstream _ _ => none

/-- R50 to R52: the expiry of a CONTROLLER entry: it is freed without completion, the expiry is reported, the owner is
told TIMEOUT (DEDUCED, log 14), and what follows an expiry follows. -/
def State.expireController (s : State) (i : SlotId) (k : Fin 32) (o : RequestOwner) (b : OrtBody) : State :=
  (((s.freeEntry i k).reportExpiry i .controller k.val b).ownerResult i o .timeout).afterExpiry i (s.slots[i]).cu.st

/-- CONTROLLER_ENTRY_EXPIRY (R50). -/
def execControllerEntryExpiry (i : SlotId) (k : Fin 32) (s : State) : Host.Outcome State Fault Refusal :=
  event (fun s => match s.expiredController i k with
    | some (o, b) => s.expireController i k o b
    | none => s) s

/-! ### The Progress Watch, the fence and the Return Map -/

/-- Whether the Progress Watch is ARMED with its tick reached. -/
def Watch.isDue (w : Watch) (now : Tick) : Bool :=
  match w with
  | .armed expiry => reached now expiry
  | .idle => false
  | .expired => false

/-- The index and the bytes owed of the oldest OPEN entry (R59); 0 and 0 where no entry is OPEN. -/
def Tracker.oldest (t : Tracker) : Nat × Nat :=
  match t.age with
  | [] => (0, 0)
  | k :: _ => (k.val, (t.ort[k]).body.elim 0 (·.bytesOwed))

/-- R59: the watch becomes EXPIRED, STALL is filed and a trigger with cause STALL is reported. -/
def State.expireWatch (s : State) (i : SlotId) : State :=
  let t := (s.slots[i]).trk
  ((s.onTracker i fun t => { t with watch := .expired }).fileIncident i .stall .none (some (countDword t.openCount))
    (some (countDword t.oldest.1)) (some (countDword t.oldest.2))).reportTrigger i .stall

/-- PROGRESS_WATCH_EXPIRY (R59). -/
def execProgressWatchExpiry (i : SlotId) (s : State) : Host.Outcome State Fault Refusal :=
  event (fun s => if (s.slots[i]).trk.watch.isDue s.now then s.expireWatch i else s) s

/-- FENCE_TRIGGER (R64, R65): the Containment Unit takes its oldest reported trigger. -/
def execFenceTrigger (i : SlotId) (s : State) : Host.Outcome State Fault Refusal := event (fun s => s.takeTrigger i) s

/-- Whether the grace timer is RUNNING with its tick reached. -/
def State.graceDue (s : State) (i : SlotId) : Bool :=
  (s.slots[i]).cu.st == .fencing && due s.now (s.slots[i]).cu.grace

/-- GRACE_EXPIRY (R70). -/
def execGraceExpiry (i : SlotId) (s : State) : Host.Outcome State Fault Refusal :=
  event (fun s => if s.graceDue i then s.closeFence i else s) s

/-- The fields of Return Map entry `k`, if it is OPEN and its lifetime expiry tick is reached. -/
def State.expiredReturn (s : State) (i : SlotId) (k : Fin 16) : Option ReturnBody :=
  ((s.slots[i]).rmap[k]).body.filter fun b => reached s.now b.expiry

/-- R95: RETURN_EXPIRED is filed and the entry is freed. -/
def State.expireReturn (s : State) (i : SlotId) (k : Fin 16) (b : ReturnBody) : State :=
  (s.fileIncident i .returnExpired (if b.bytesOwed = b.bytesRequested then .unanswered else .partly)
    (some (countDword k.val)) (some (countDword b.bytesOwed)) (some (b.tag.setWidth 32))).freeReturn i k

/-- RETURN_LIFETIME_EXPIRY (R95). -/
def execReturnLifetimeExpiry (i : SlotId) (k : Fin 16) (s : State) : Host.Outcome State Fault Refusal :=
  event (fun s => match s.expiredReturn i k with
    | some b => s.expireReturn i k b
    | none => s) s

end Sys2Proof.Machine
end

