-- ==== Sys2Proof/Machine/Dispatch.lean ====
section
/-! DEFINITION. Every command and the one meaning it has. -/

namespace Sys2Proof.Machine

open Sys2Proof

def exec (i : Instr) (s : State) : Host.Outcome State Fault Refusal :=
  match i with
  | .powerOnReset => Sys2Proof.Machine.execPowerOnReset s
  | .upstreamHotReset => Sys2Proof.Machine.execUpstreamHotReset s
  | .upstreamLinkDown => Sys2Proof.Machine.execUpstreamLinkDown s
  | .hierarchyReset applyToo => Sys2Proof.Machine.execHierarchyReset applyToo s
  | .applyDevice => Sys2Proof.Machine.execApplyDevice s
  | .attnWrite enables value => Sys2Proof.Machine.execAttnWrite enables value s
  | .attnEnableWrite enables value => Sys2Proof.Machine.execAttnEnableWrite enables value s
  | .orderApply slot number priority => Sys2Proof.Machine.execOrderApply slot number priority s
  | .orderCapture slot number priority => Sys2Proof.Machine.execOrderCapture slot number priority s
  | .orderFence slot number priority => Sys2Proof.Machine.execOrderFence slot number priority s
  | .orderRecover slot number priority => Sys2Proof.Machine.execOrderRecover slot number priority s
  | .orderLift slot number priority => Sys2Proof.Machine.execOrderLift slot number priority s
  | .orderRetire slot number priority => Sys2Proof.Machine.execOrderRetire slot number priority s
  | .orderReinstate slot number priority => Sys2Proof.Machine.execOrderReinstate slot number priority s
  | .orderUnknownCode slot code number priority => Sys2Proof.Machine.execOrderUnknownCode slot code number priority s
  | .orderCellWrite slot w => Sys2Proof.Machine.execOrderCellWrite slot w s
  | .cancelCellWrite slot value => Sys2Proof.Machine.execCancelCellWrite slot value s
  | .cancelTaken slot => Sys2Proof.Machine.execCancelTaken slot s
  | .incidentStateWrite slot k value => Sys2Proof.Machine.execIncidentStateWrite slot k value s
  | .swaWrite w => Sys2Proof.Machine.execSwaWrite w s
  | .hostMemRead r => Sys2Proof.Machine.execHostMemRead r s
  | .hostMemWrite r data => Sys2Proof.Machine.execHostMemWrite r data s
  | .hostCfgRead r => Sys2Proof.Machine.execHostCfgRead r s
  | .hostCfgWrite r data => Sys2Proof.Machine.execHostCfgWrite r data s
  | .hostMessage m => Sys2Proof.Machine.execHostMessage m s
  | .hostUnrecognisedRequest requesterId tag nonPosted => Sys2Proof.Machine.execHostUnrecognisedRequest requesterId tag nonPosted s
  | .hostCompletion c => Sys2Proof.Machine.execHostCompletion c s
  | .cardCompletion slot c => Sys2Proof.Machine.execCardCompletion slot c s
  | .cardMemRead slot r => Sys2Proof.Machine.execCardMemRead slot r s
  | .cardMemWrite slot r data => Sys2Proof.Machine.execCardMemWrite slot r data s
  | .cardMessage slot m => Sys2Proof.Machine.execCardMessage slot m s
  | .cardConfigRequest slot requesterId tag nonPosted => Sys2Proof.Machine.execCardConfigRequest slot requesterId tag nonPosted s
  | .waitingHostRequestRetaken => Sys2Proof.Machine.execWaitingHostRequestRetaken s
  | .cardReadHandover slot => Sys2Proof.Machine.execCardReadHandover slot s
  | .presenceSample slot reading => Sys2Proof.Machine.execPresenceSample slot reading s
  | .linkUp slot => Sys2Proof.Machine.execLinkUp slot s
  | .linkLoss slot => Sys2Proof.Machine.execLinkLoss slot s
  | .deadlineExpiry slot k => Sys2Proof.Machine.execDeadlineExpiry slot k s
  | .heldItemExpiry slot p => Sys2Proof.Machine.execHeldItemExpiry slot p s
  | .controllerEntryExpiry slot k => Sys2Proof.Machine.execControllerEntryExpiry slot k s
  | .progressWatchExpiry slot => Sys2Proof.Machine.execProgressWatchExpiry slot s
  | .fenceTrigger slot => Sys2Proof.Machine.execFenceTrigger slot s
  | .graceExpiry slot => Sys2Proof.Machine.execGraceExpiry slot s
  | .returnLifetimeExpiry slot k => Sys2Proof.Machine.execReturnLifetimeExpiry slot k s
  | .earliestStartReached slot => Sys2Proof.Machine.execEarliestStartReached slot s
  | .planGrant => Sys2Proof.Machine.execPlanGrant s
  | .holdTickExpiry => Sys2Proof.Machine.execHoldTickExpiry s
  | .trainLimitExpiry => Sys2Proof.Machine.execTrainLimitExpiry s
  | .settleLimitExpiry => Sys2Proof.Machine.execSettleLimitExpiry s
  | .retryTickExpiry => Sys2Proof.Machine.execRetryTickExpiry s
  | .delayTickExpiry => Sys2Proof.Machine.execDelayTickExpiry s
  | .retryLimitExpiry => Sys2Proof.Machine.execRetryLimitExpiry s
  | .outboundBufferDrain slot count => Sys2Proof.Machine.execOutboundBufferDrain slot count s

end Sys2Proof.Machine
end

