-- ==== Sys2Proof/Machine/TimeBase.lean ====
section
/-! DEFINITION. What happens without a command from outside: which internal event is due (R44, R64, R115, R158), and the
count of NOW (R43) and of the sample timers (R99). The choice among several due events is the model's (DESIGN CHOICE, log 17). -/

namespace Sys2Proof.Machine

open Sys2Proof

/-- The first slot for which `f` holds, as a command. -/
def firstSlot (f : SlotId → Bool) (c : SlotId → Instr) : Option Instr := ((List.finRange 8).find? f).map c

/-- A reported fence trigger waits for its Containment Unit (R64). -/
def State.dueTrigger (s : State) : Option Instr :=
  firstSlot (fun i => !(s.slots[i]).cu.triggers.isEmpty) .fenceTrigger

/-- A latched cancel waits for its Order Unit (R158). -/
def State.dueCancel (s : State) : Option Instr := firstSlot (fun i => (s.slots[i]).ou.cancel) .cancelTaken

/-- A host request stands first in the link with the credits granted (R23). -/
def State.dueLink (s : State) : Option Instr :=
  if s.withheld.isNone && !s.hostQueue.isEmpty then some .waitingHostRequestRetaken else none

/-- The deadline of an OPEN entry of a slot is reached (R48, R50). -/
def State.dueEntry (s : State) (i : SlotId) : Option Instr :=
  (List.finRange 32).findSome? fun k =>
    ((s.slots[i]).trk.ort[k]).body.bind fun b =>
      if reached s.now b.deadline then
        some (if b.origin.isUpstream then .deadlineExpiry i k else .controllerEntryExpiry i k)
      else none

/-- The deadline of a held item of a slot is reached (R49). -/
def State.dueHeld (s : State) (i : SlotId) : Option Instr :=
  ((s.slots[i]).trk.hold.findIdx? fun h => reached s.now h.body.deadline).map (.heldItemExpiry i)

/-- A lifetime expiry tick of a slot's Return Map is reached (R95). -/
def State.dueReturn (s : State) (i : SlotId) : Option Instr :=
  ((List.finRange 16).find? fun k => (s.expiredReturn i k).isSome).map (.returnLifetimeExpiry i)

/-- The first expiry that is due at a slot. -/
def State.dueAtSlot (s : State) (i : SlotId) : Option Instr :=
  (s.dueEntry i).or <| (s.dueHeld i).or <|
    (if (s.slots[i]).trk.watch.isDue s.now then some (.progressWatchExpiry i) else none).or <|
    (if s.graceDue i then some (.graceExpiry i) else none).or <| (s.dueReturn i).or <|
    if (s.slots[i]).port.sampleTimer = 0 then some (.presenceSample i s.wires.presence[i]) else none

/-- A timer of the current plan is reached (R111). -/
def State.duePlan (s : State) : Option Instr :=
  s.plan.bind fun p =>
    if due s.now p.holdTick then some .holdTickExpiry
    else if due s.now p.trainLimit then some .trainLimitExpiry
    else if due s.now p.settleLimit then some .settleLimitExpiry
    else if due s.now p.retryTick then some .retryTickExpiry
    else if due s.now p.delayTick then some .delayTickExpiry
    else if due s.now p.retryLimit then some .retryLimitExpiry
    else none

/-- An earliest start tick is reached that has not yet been taken (R115). -/
def State.dueStart (s : State) : Option Instr :=
  firstSlot (fun i => (s.queue[i]).any fun e => !e.eligible && reached s.now e.earliest) .earliestStartReached

/-- The sequencer is idle and the queue holds an eligible entry (R115). -/
def State.dueGrant (s : State) : Option Instr :=
  if s.plan.isNone && s.chosen.isSome then some .planGrant else none

/-- The internal event that is taken next, if one is due now. -/
def State.nextDue (s : State) : Option Instr :=
  s.dueTrigger.or <| s.dueCancel.or <| s.dueLink.or <| ((List.finRange 8).findSome? s.dueAtSlot).or <|
    s.duePlan.or <| s.dueStart.or s.dueGrant

/-- R43, R99: one microsecond passes: NOW rises by one and every sample timer runs on. -/
def State.tick (s : State) : State :=
  { s with
    now := s.now + 1
    slots := mapVector (fun sl => { sl with port.sampleTimer := sl.port.sampleTimer - 1 }) s.slots }

end Sys2Proof.Machine
end

