-- ==== Sys2Proof/Safety.lean ====
section
/-! DEFINITION. The terms in which claims about the 2480 are made: what an event leaves unchanged, the interrupt message it
sends, the Order Unit and the incidents it leaves, and the conditions that a run of the machine keeps. -/

namespace Sys2Proof.Machine

open Sys2Proof

/-! ### What an event changes -/

/-- R169: what an event from `s` to `t` sends for the pending set: one interrupt message if it takes the set from empty to
non-empty while the host has message interrupts enabled. -/
def interruptSent (s t : State) : List HostPacket :=
  if s.attn &&& s.attnEnable = 0 ∧ t.attn &&& t.attnEnable ≠ 0 ∧ t.mgmt.msiEnabled = true then
    [.interrupt t.mgmt.msiAddress t.mgmt.msiData]
  else []

/-- The state `u` with the interrupt message of the event that led to it from `s` sent last. -/
def withInterrupt (s u : State) : State :=
  { u with wires := { u.wires with upstream := u.wires.upstream ++ interruptSent s u } }

/-- The state after an event that changes one slot to `sl`, takes ATTN to `attn`, files `filed` incidents and sends `sent`
upstream, and changes nothing else but for the interrupt message. -/
def slotAfter (s : State) (i : SlotId) (sl : Slot) (attn : BitVec 24) (filed : Nat) (sent : List HostPacket) : State :=
  withInterrupt s
    { s with
      slots := s.slots.set i sl, attn := attn, incidentSerial := s.incidentSerial + BitVec.ofNat 32 filed,
      wires := { s.wires with upstream := s.wires.upstream ++ sent } }

/-- The n-th incident that an event from `s` files, with the tick of the event (R170). -/
def incidentAt (s : State) (n : Nat) (kind : IncidentKind) (st : SlotState) (phase : Phase) (epoch : BitVec 16)
    (attempt : Nat) (reason : Reason) (a b c : Option Dword) : IncidentRecord :=
  { filled := true, kind := some kind, st := st, phase := phase, serial := s.incidentSerial + BitVec.ofNat 32 n,
    tick := s.now, epoch := epoch, attempt := attempt, reason := reason, valueA := a, valueB := b, valueC := c }

/-! ### Orders -/

/-- The command that hands over an order of a code the controller knows. -/
def orderCommand (o : OrderCode) (i : SlotId) (number : BitVec 16) (priority : Byte) : Instr :=
  match o with
  | .apply => .orderApply i number priority
  | .capture => .orderCapture i number priority
  | .fence => .orderFence i number priority
  | .recover => .orderRecover i number priority
  | .lift => .orderLift i number priority
  | .retire => .orderRetire i number priority
  | .reinstate => .orderReinstate i number priority

/-- The slot whose Order Cell a command writes with a hand-over or with bytes of the cell. -/
def writesOrderCell (i : SlotId) : Instr → Bool
  | .orderApply j _ _ | .orderCapture j _ _ | .orderFence j _ _ | .orderRecover j _ _ | .orderLift j _ _
  | .orderRetire j _ _ | .orderReinstate j _ _ | .orderUnknownCode j _ _ _ => j == i
  | .orderCellWrite j w =>
    j == i && (w.owner.isSome || w.code.isSome || w.numberLow.isSome || w.numberHigh.isSome || w.priority.isSome || w.other)
  | .powerOnReset | .upstreamHotReset | .upstreamLinkDown | .hierarchyReset _ | .applyDevice | .attnWrite _ _
  | .attnEnableWrite _ _ | .cancelCellWrite _ _ | .cancelTaken _ | .incidentStateWrite _ _ _ | .swaWrite _
  | .hostMemRead _ | .hostMemWrite _ _ | .hostCfgRead _ | .hostCfgWrite _ _ | .hostMessage _
  | .hostUnrecognisedRequest _ _ _ | .hostCompletion _ | .cardCompletion _ _ | .cardMemRead _ _ | .cardMemWrite _ _ _
  | .cardMessage _ _ | .cardConfigRequest _ _ _ _ | .waitingHostRequestRetaken | .cardReadHandover _
  | .presenceSample _ _ | .linkUp _ | .linkLoss _ | .deadlineExpiry _ _ | .heldItemExpiry _ _
  | .controllerEntryExpiry _ _ | .progressWatchExpiry _ | .fenceTrigger _ | .graceExpiry _ | .returnLifetimeExpiry _ _
  | .earliestStartReached _ | .planGrant | .holdTickExpiry | .trainLimitExpiry | .settleLimitExpiry | .retryTickExpiry
  | .delayTickExpiry | .retryLimitExpiry | .outboundBufferDrain _ _ => false

/-- An Order Unit after the hand-over of an order that goes on (R153). -/
def OrderUnit.begun (u : OrderUnit) (code : Byte) (number : BitVec 16) (priority : Byte) (level : Level)
    (taken : SlotState) : OrderUnit :=
  { u with
    cell := { owner := .controller, code := code, number := number, priority := priority },
    order := some { code := code, number := number, level := level, taken := taken }, collision := false }

/-- An Order Unit after an order that was handed over and ended in one event (R153, R156). -/
def OrderUnit.judged (u : OrderUnit) (now : Tick) (code : Byte) (number : BitVec 16) (priority : Byte)
    (outcome : OrderOutcome) (reason : Reason) (d1 d2 d3 : Dword) : OrderUnit :=
  { u with
    cell := { owner := .software, code := code, number := number, priority := priority },
    result := { number := number, code := code, outcome := outcome, reason := reason, detail1 := d1, detail2 := d2,
                detail3 := d3, tick := now },
    order := none, collision := false }

/-- An Order Unit after the end of the order `o` that was in progress (R156). -/
def OrderUnit.ended (u : OrderUnit) (now : Tick) (o : OrderInProgress) (outcome : OrderOutcome) (reason : Reason)
    (d1 d2 d3 : Dword) : OrderUnit :=
  { u with
    cell := { u.cell with owner := .software },
    result := { number := o.number, code := o.code, outcome := outcome, reason := reason, detail1 := d1, detail2 := d2,
                detail3 := d3, tick := now },
    order := none }

/-- The states in which R155 refuses an order with WRONG_STATE. -/
def refusedIn : OrderCode → SlotState → Bool
  | .apply, _ => false
  | .capture, st => st != .active
  | .fence, st => st == .empty || st == .offline || st == .recovering || st == .retired
  | .recover, st => st == .empty || st == .retired
  | .lift, st => st != .fenced
  | .retire, st => st == .empty
  | .reinstate, st => st != .retired

/-! ### Requests, ports -/

/-- The command that is the arrival of a host non-posted request. -/
def hostCommand : NonPosted → Instr
  | .memRead r => .hostMemRead r
  | .cfgRead r => .hostCfgRead r
  | .cfgWrite r d => .hostCfgWrite r d

/-- Entry `k` is the lowest-index FREE entry of a slot's ORT. -/
def LowestFree (sl : Slot) (k : Fin 32) : Prop :=
  (sl.trk.ort[k]).body = none ∧ ∀ j : Fin 32, j < k → (sl.trk.ort[j]).body ≠ none

/-- Entry `k` is the lowest-index FREE entry of a slot's Return Map. -/
def LowestFreeReturn (sl : Slot) (k : Fin 16) : Prop :=
  (sl.rmap[k]).body = none ∧ ∀ j : Fin 16, j < k → (sl.rmap[j]).body ≠ none

/-- R56: the Progress Watch after an entry opens now in a slot. -/
def watchOnOpen (now : Tick) (sl : Slot) : Watch :=
  if (∀ k : Fin 32, (sl.trk.ort[k]).body = none) ∧ sl.cu.st = .active ∧ sl.trk.watch = .idle ∧ sl.inForce.watchPeriod ≠ 0 then
    .armed (now + BitVec.ofNat 32 (sl.inForce.watchPeriod.toNat * 1024))
  else sl.trk.watch

/-- A slot in which entry `k` opens now with fields `b` and sends `q` to the card (R19 to R21, R24, R56). -/
def Slot.withOpened (sl : Slot) (now : Tick) (k : Fin 32) (b : OrtBody) (q : NonPosted) : Slot :=
  { sl with
    trk := { sl.trk with
      ort := sl.trk.ort.set k { gen := (sl.trk.ort[k]).gen, body := some b }, age := sl.trk.age ++ [k],
      watch := watchOnOpen now sl },
    port := { sl.port with outbound := sl.port.outbound ++ [.request q] } }

/-- A Tracker in which entry `k` has been freed (R26, R58). -/
def Tracker.withFreed (t : Tracker) (k : Fin 32) : Tracker :=
  { t with
    ort := t.ort.set k { gen := (t.ort[k]).gen + 1, body := none }, age := t.age.erase k,
    watch := if ∀ j : Fin 32, j ≠ k → (t.ort[j]).body = none then .idle else t.watch }

/-- The identity or record read of the controller for slot `sl`, as its entry holds it when it opens now (R24). -/
def readBody (s : State) (sl : Slot) (owner : RequestOwner) (offset : BitVec 10) : OrtBody :=
  { origin := .controller owner, kind := .cfgRead offset true, bytesRequested := 4, bytesOwed := 4, arrival := s.now,
    deadline := s.now + BitVec.ofNat 32 (windowUs sl.inForce.windowConfigUs.toNat 1 sl.inForce.paceNs.toNat
      sl.inForce.stretch.toNat s.device.ceilingUs.toNat), gathered := [] }

/-- That read as it is sent to the card under downstream tag `tag` (R10, R19). -/
def readSent (s : State) (sl : Slot) (tag : BitVec 10) (offset : BitVec 10) : NonPosted :=
  .cfgRead { requesterId := s.mgmt.requesterId, tag := tag, form := .localForm,
             bus := if sl.inForce.busLast < sl.inForce.busFirst then 0 else sl.inForce.busFirst, device := 0,
             function := 0, offset := offset, enables := 0xF }

/-- A slot after an assert command (R105, R107, R108). -/
def Slot.asserted (sl : Slot) : Slot :=
  if sl.port.line = .asserted then sl
  else
    { sl with
      port := { sl.port with
        line := .asserted, link := .down, epoch := sl.port.epoch + 1,
        outbound := if sl.port.link = .up then [] else sl.port.outbound },
      ctr := if sl.port.link = .up then { sl.ctr with
          postedDiscarded := satAdd sl.ctr.postedDiscarded (sl.port.outbound.countP CardPacket.isPosted) } else sl.ctr }

/-- A slot that owes the host nothing: no entry OPEN, no item held, no controller request waiting. -/
def Slot.Quiet (sl : Slot) : Prop :=
  (∀ k : Fin 32, (sl.trk.ort[k]).body = none) ∧ sl.trk.age = [] ∧ sl.trk.hold = [] ∧ sl.trk.waiting = none

/-- The sequencer neither grants nor sets aside while it stands as it does: it runs a plan that is URGENT or past TRAINING. -/
def PlanRunsOn (s : State) : Prop :=
  ∃ p, s.plan = some p ∧ (p.level = .urgent ∨ p.phase = .settling ∨ p.phase = .restoring)

/-- No slot holds an eligible Recovery Queue entry. -/
def NoneEligible (s : State) : Prop :=
  ∀ k : SlotId, ∀ e, s.queue[k] = some e → e.eligible = false ∧ reached s.now e.earliest = false

/-- The plan of a grant to slot `i` at tick `now` (R111, R118). Its restore cursor 0, step NONE, empty record in hand and
count 0 are the model's choice (log 35). -/
def planGranted (now : Tick) (i : SlotId) (level : Level) (attempt : Nat) (hold : Nat) : Plan :=
  { slot := i, level := level, attempt := attempt, phase := .resetHold, grantTick := now,
    holdTick := some (now + BitVec.ofNat 32 (hold * 1000)), trainLimit := none, settleLimit := none, retryTick := none,
    delayTick := none, retryLimit := none, cursor := 0, step := .none,
    hand := { offset := 0, byteMask := 0, value := 0, verify := false, verifyMask := 0, delay := 0 }, written := 0,
    stop := false }

/-- The fields of the entry or held item of a host request `q` that slot `sl` takes now (R18, R21, R45, R46). -/
def requestBody (s : State) (sl : Slot) (q : NonPosted) : OrtBody :=
  { origin := .upstream (requesterOf q) (tagOf q), kind := kindOf (formForCard sl.inForce.busFirst q),
    bytesRequested := bytesRequested q, bytesOwed := bytesRequested q, arrival := s.now,
    deadline := s.now + BitVec.ofNat 32 (windowUs
      (if isConfig q = true then sl.inForce.windowConfigUs.toNat else sl.inForce.windowReadUs.toNat) (lengthOf q)
      sl.inForce.paceNs.toNat sl.inForce.stretch.toNat s.device.ceilingUs.toNat), gathered := [] }

/-- A host request as it is sent to the card under downstream tag `tag` (R10, R19). -/
def requestSent (s : State) (sl : Slot) (tag : BitVec 10) (q : NonPosted) : NonPosted :=
  retag s.mgmt.requesterId tag (formForCard sl.inForce.busFirst q)

/-- R57: the Progress Watch of an ACTIVE slot after a progress report that leaves its Tracker at `t`. -/
def watchOnProgress (now : Tick) (sl : Slot) (t : Tracker) : Watch :=
  if (∀ k : Fin 32, (t.ort[k]).body = none) ∨ sl.inForce.watchPeriod = 0 then .idle
  else .armed (now + BitVec.ofNat 32 (sl.inForce.watchPeriod.toNat * 1024))

/-- R30: `data` holds the first `n` bytes of `stream` from position `lead` of its first dword on, in as many dwords as
that needs, and the bytes of the stream that followed in the positions left. -/
def Carries (data : List Dword) (lead n : Nat) (stream : List Byte) : Prop :=
  data.length = (lead + n + 3) / 4 ∧
    ((dwordBytes data).drop lead).take stream.length = stream.take (4 * data.length - lead)

/-- What an event from `s` to `t` sends upstream is one completion, of which `P` holds, and behind it the interrupt message
if the event fills the pending set. -/
def SentCompletion (s t : State) (P : Completion → Prop) : Prop :=
  ∃ f : Completion, t.wires.upstream = s.wires.upstream ++ [.completion f] ++ interruptSent s t ∧ P f

/-- R45, R46: a deadline computed in the stages of R46 from base window `b`, length `l`, pace `p`, stretch `e` and
ceiling `c`. -/
def DeadlineStages (b l p e c : Nat) (arrival deadline : Tick) : Prop :=
  ∃ pace raw stretched window : Nat,
    (l * p ≤ 1000 * pace ∧ 1000 * pace < l * p + 1000 ∧ pace ≤ 262) ∧
    (raw = b + pace ∧ 1 ≤ raw ∧ raw ≤ 65797) ∧ (stretched = raw * 2 ^ e ∧ 1 ≤ stretched ∧ stretched ≤ 526376) ∧
    (window = if min stretched c < 16 then 16 else min stretched c) ∧ 16 ≤ window ∧ window ≤ c ∧
    deadline.toNat = (arrival.toNat + window) % 2 ^ 32

/-- The order in progress of a slot, if it has the code `code`. -/
def Slot.orderOfCode (sl : Slot) (code : Byte) : Option OrderInProgress := sl.ou.order.filter fun o => o.code == code

/-- The Order Unit of a slot after an event that ends the order in progress if it has the code `code` (R156). -/
def Slot.ouEnding (sl : Slot) (now : Tick) (code : Byte) (outcome : OrderOutcome) (reason : Reason)
    (d1 d2 d3 : Dword) : OrderUnit :=
  match sl.orderOfCode code with
  | some o => sl.ou.ended now o outcome reason d1 d2 d3
  | none => sl.ou

/-- The ORDER_DONE bit of slot `i`, if the order in progress of `sl` has the code `code` (R156, R167). -/
def doneMask (i : SlotId) (sl : Slot) (code : Byte) : BitVec 24 :=
  if (sl.orderOfCode code).isSome then attentionMask i .orderDone else 0

/-- A slot that a fence has just taken out of ACTIVE with nothing owed (R62, R68, R71). -/
def Slot.fencedAtOnce (sl : Slot) (now : Tick) (cause : FenceCause) : Slot :=
  { sl with
    cu := { sl.cu with st := .fenced, cause := cause, grace := none, followUp := .none,
                       tally := { start := now, completions := 0, requests := 0 } },
    trk := { sl.trk with watch := .idle } }

/-- An ACTIVE slot that owes the host nothing and in which nothing waits or is under way. -/
def Idle (s : State) (i : SlotId) : Prop :=
  (s.slots[i]).Quiet ∧ (s.slots[i]).cu.st = .active ∧ (s.slots[i]).capture = none ∧ (s.slots[i]).port.waitingRead = none ∧
    s.withheld ≠ some i ∧ (s.slots[i]).ou.order = none ∧ (s.slots[i]).cu.followUp = .none

/-- No controller request of the plan stands in a slot's Tracker. -/
def NoPlanRequest (sl : Slot) : Prop :=
  (∀ k : Fin 32, ∀ b, (sl.trk.ort[k]).body = some b → b.origin ≠ .controller .plan) ∧
    (∀ c, sl.trk.waiting = some c → c.owner ≠ .plan)

/-- R122: a record that a plan writes. -/
def Writes (r : RestoreRecord) : Prop :=
  (r.state = 1 ∨ r.state = 3) ∧ r.offset.toNat < 1024 ∧ r.byteMask ≠ 0

/-- R142: a record that a capture reads. -/
def Reads (r : RestoreRecord) : Prop := 2 ≤ r.state.toNat ∧ r.state.toNat ≤ 4 ∧ r.offset.toNat < 1024

/-- Record `m` is the first from index `n` on of which `P` holds. -/
def FirstRecord (P : RestoreRecord → Prop) (c : ContextStore) (n : Nat) (m : Fin 64) : Prop :=
  n ≤ m.val ∧ P c.records[m] ∧ ∀ j : Fin 64, n ≤ j.val → j < m → ¬ P c.records[j]

/-- The current plan `p` when it writes record `m` of a slot with Context Store `c` (R122, R123). -/
def Plan.writing (p : Plan) (c : ContextStore) (m : Fin 64) : Plan :=
  { p with
    cursor := m.val, step := .write, retryLimit := none,
    hand := { offset := (c.records[m]).offset.setWidth 10, byteMask := (c.records[m]).byteMask,
              value := (c.records[m]).value, verify := (c.records[m]).verify != 0, verifyMask := (c.records[m]).verifyMask,
              delay := min (c.records[m]).delay.toNat 15 } }

/-- The entry of the restore write of a plan for slot `sl` when it opens now (R24, R123). -/
def writeBody (s : State) (sl : Slot) (h : RecordInHand) : OrtBody :=
  { readBody s sl .plan h.offset with
    kind := .cfgWrite h.offset true h.value h.byteMask, bytesRequested := 0, bytesOwed := 0 }

/-- The restore write as it is sent to the card under downstream tag `tag` (R10, R123). -/
def writeSent (s : State) (sl : Slot) (tag : BitVec 10) (h : RecordInHand) : NonPosted :=
  .cfgWrite { requesterId := s.mgmt.requesterId, tag := tag, form := .localForm,
              bus := if sl.inForce.busLast < sl.inForce.busFirst then 0 else sl.inForce.busFirst, device := 0,
              function := 0, offset := h.offset, enables := h.byteMask } h.value

/-- The entry of a controller request `c` of slot `sl` when it opens now (R24). -/
def controllerOpens (s : State) (sl : Slot) (c : ControllerRequest) : OrtBody :=
  match c.write with
  | none => readBody s sl c.owner c.offset
  | some (data, enables) =>
    { readBody s sl c.owner c.offset with
      kind := .cfgWrite c.offset true data enables, bytesRequested := 0, bytesOwed := 0 }

/-- That request as it is sent to the card under downstream tag `tag` (R10, R19). -/
def controllerSends (s : State) (sl : Slot) (tag : BitVec 10) (c : ControllerRequest) : NonPosted :=
  match c.write with
  | none => readSent s sl tag c.offset
  | some (data, enables) =>
    writeSent s sl tag { offset := c.offset, byteMask := enables, value := data, verify := false, verifyMask := 0, delay := 0 }

/-! ### Fences -/

/-- Every OPEN entry of a slot's ORT freed (R26, R40). -/
def Slot.ortFreed (sl : Slot) : Vector OrtEntry 32 :=
  Vector.ofFn fun k =>
    if (sl.trk.ort[k]).body = none then sl.trk.ort[k] else { gen := (sl.trk.ort[k]).gen + 1, body := none }

/-- The stand-ins for the OPEN host entries of a slot, in Age List order (R40). -/
def Slot.owedStandIns (sl : Slot) : List Completion :=
  sl.trk.age.flatMap fun k => (sl.trk.ort[k]).body.elim [] (·.standIns sl.inForce.standinMode)

/-- The stand-ins for the items of a slot's Hold Queue, head first (R39). -/
def Slot.heldStandIns (sl : Slot) : List Completion :=
  sl.trk.hold.flatMap fun h => h.body.standIns sl.inForce.standinMode

/-- A slot `sl` at the closure of its fence, with no entry OPEN and its tally full (R70 to R74): FENCED, with FENCE_COMPLETE
filed as the n-th incident of an event from `s`, and a FENCE order in progress ended DONE. -/
def Slot.fenceClosed (sl : Slot) (s : State) (n : Nat) : Slot :=
  let a : Dword := BitVec.ofNat 32 sl.cu.tally.completions
  let b : Dword := BitVec.ofNat 32 sl.cu.tally.requests
  let elapsed := s.now - sl.cu.tally.start
  { sl with
    cu := { sl.cu with st := .fenced, grace := none, followUp := .none }, trk := { sl.trk with waiting := none },
    inc := sl.inc.file (incidentAt s n .fenceComplete .fenced .none sl.port.epoch sl.attempt (.cause sl.cu.cause) (some a)
      (some b) (some elapsed)),
    ou := sl.ouEnding s.now 3 .done (.cause sl.cu.cause) a b elapsed }

/-- The attention of that closure. -/
def fenceClosedMask (i : SlotId) (sl : Slot) : BitVec 24 :=
  attentionMask i .incident ||| attentionMask i .stateChange ||| doneMask i sl 3

/-- Nothing follows the fence of a slot: it has no follow-up and no automatic recovery (R73). -/
def Slot.StaysFenced (sl : Slot) : Prop :=
  sl.cu.followUp = .none ∧ (sl.inForce.autoRecover = 0 ∨ sl.cu.cause = .order)

/-! ### Recoveries -/

/-- No slot but `i` holds an eligible Recovery Queue entry. -/
def OthersWait (s : State) (i : SlotId) : Prop :=
  ∀ k : SlotId, k ≠ i → ∀ e, s.queue[k] = some e → e.eligible = false ∧ reached s.now e.earliest = false

/-- A slot that joins the Recovery Queue (R113). -/
def Slot.joined (sl : Slot) : Slot := { sl with cu := { sl.cu with st := .recovering }, attempt := 1 }

/-- R115, R116, R118: the state in which the ROUTINE plan `p` has been set aside, its slot back in the queue with its line
asserted, and slot `i`, now `sl`, is granted at URGENT for its attempt `k`. -/
def setAsideFor (s : State) (p : Plan) (i : SlotId) (sl : Slot) (k : Nat) (attn : BitVec 24) (filed : Nat)
    (sent : List HostPacket) : State :=
  let back := { (s.slots[p.slot]).asserted with
    setAside := if (s.slots[p.slot]).setAside = 0xFFFF then 0xFFFF else (s.slots[p.slot]).setAside + 1 }
  { slotAfter { s with slots := s.slots.set p.slot back } i sl.asserted attn filed sent with
    queue := (s.queue.set p.slot (some { level := .routine, attempt := p.attempt, earliest := s.now, eligible := true })).set
      i none,
    plan := some (planGranted s.now i .urgent k (min (sl.inForce.holdMs.toNat * 2 ^ (k - 1)) 1000)) }

/-- R113, R115, R116, R118: slot `i`, `sl` before it, joins the Recovery Queue at attempt 1 in an event with outcome `run`.
It waits while a plan runs that it cannot set aside, is granted at once by an idle sequencer with no other eligible entry,
and at URGENT sets aside a ROUTINE plan in RESET_HOLD or TRAINING. -/
def Joins (s : State) (i : SlotId) (sl : Slot) (level : Level) (attn : BitVec 24) (filed : Nat) (sent : List HostPacket)
    (run : Host.Outcome State Fault Refusal) : Prop :=
  (PlanRunsOn s ∨ (level = .routine ∧ OthersWait s i ∧ s.plan ≠ none) →
    run = .next { slotAfter s i sl.joined attn filed sent with
      queue := s.queue.set i (some { level := level, attempt := 1, earliest := s.now, eligible := true }) }) ∧
  (s.plan = none → OthersWait s i →
    run = .next { slotAfter s i sl.joined.asserted attn filed sent with
      queue := s.queue.set i none, plan := some (planGranted s.now i level 1 (min sl.inForce.holdMs.toNat 1000)) }) ∧
  (∀ p, s.plan = some p → level = .urgent → OthersWait s i → p.level = .routine →
    p.phase = .resetHold ∨ p.phase = .training → p.stop = false → p.slot ≠ i →
    run = .next (setAsideFor s p i sl.joined 1 attn filed sent))

/-- The Tracker of slot `sl`, which owes the host nothing, once the request of its plan has ended (R25): it had none, or its
one OPEN entry is freed, or its waiting request is withdrawn. -/
def PlanRequestEnded (sl : Slot) (t : Tracker) : Prop :=
  sl.trk.hold = [] ∧
    ((sl.Quiet ∧ t = sl.trk) ∨
      (∃ (k : Fin 32) (b : OrtBody), (sl.trk.ort[k]).body = some b ∧ b.origin = .controller .plan ∧
        (∀ j : Fin 32, j ≠ k → (sl.trk.ort[j]).body = none) ∧ sl.trk.age = [k] ∧ sl.trk.waiting = none ∧
        t = sl.trk.withFreed k) ∨
      (∃ c : ControllerRequest, (∀ k : Fin 32, (sl.trk.ort[k]).body = none) ∧ sl.trk.age = [] ∧ sl.trk.waiting = some c ∧
        c.owner = .plan ∧ t = { sl.trk with waiting := none }))

/-- The record that a failure or a result of plan `p` names (R128). -/
def Plan.recordShown (p : Plan) : Option Dword := if p.phase = .restoring then some (BitVec.ofNat 32 p.cursor) else none

/-- The ATTEMPT_FAILED incident of plan `p` in slot `sl`, the n-th of an event from `s` (R128). -/
def attemptFailedAt (s : State) (p : Plan) (sl : Slot) (n : Nat) (reason : Reason) (c : Option Dword) : IncidentRecord :=
  incidentAt s n .attemptFailed .recovering p.phase.shown sl.port.epoch sl.attempt reason
    (some (BitVec.ofNat 32 p.attempt)) p.recordShown c

/-- R128, R129: the state after a failure that leaves an attempt: slot `sl` of plan `p` is queued again with its backoff.
ATTEMPT_FAILED is the n-th incident. -/
def queuedAgain (s : State) (p : Plan) (sl : Slot) (n : Nat) (reason : Reason) (c : Option Dword) : State :=
  { slotAfter s p.slot { sl with
      attempt := p.attempt + 1, inc := sl.inc.file (attemptFailedAt s p sl n reason c) }
      (s.attn ||| attentionMask p.slot .incident) n [] with
    plan := none,
    queue := s.queue.set p.slot (some {
      level := p.level, attempt := p.attempt + 1, eligible := false,
      earliest := s.now + BitVec.ofNat 32 (min (sl.inForce.holdMs.toNat * 2 ^ (p.attempt - 1)) 1000 * 1000) }) }

/-- R128, R130: the state after a failure for which slot `sl` of plan `p` is RETIRED, its line asserted and its RECOVER
order FAILED. ATTEMPT_FAILED is the n-th incident, and RETIRED follows with its reason `why` and value B `b`. -/
def retiredAfter (s : State) (p : Plan) (sl : Slot) (n : Nat) (reason : Reason) (c : Option Dword) (why : Reason)
    (b : Dword) : State :=
  let i := p.slot
  let a := sl.asserted
  let k : Dword := BitVec.ofNat 32 p.attempt
  { slotAfter s i { a with
      cu := { sl.cu with st := .retired },
      inc := (sl.inc.file (attemptFailedAt s p sl n reason c)).file (incidentAt s (n + 1) .retired .retired .none
        a.port.epoch sl.attempt why (some k) (some b) none),
      ou := sl.ouEnding s.now 4 .failed reason k (p.recordShown.getD 64) 0 }
      (s.attn ||| attentionMask i .incident ||| attentionMask i .stateChange ||| doneMask i sl 4) (n + 1) [] with
    plan := none }

/-- R128 to R130: an attempt of plan `p`, whose slot is then `sl`, fails in an event with outcome `run`, with no other entry
eligible. -/
def AttemptEnds (s : State) (p : Plan) (sl : Slot) (n : Nat) (reason : Reason) (c : Option Dword)
    (run : Host.Outcome State Fault Refusal) : Prop :=
  s.queue[p.slot] = none → NoneEligible s → NoPlanRequest sl →
    (p.attempt < sl.inForce.attemptLimit.toNat → sl.inForce.holdMs ≠ 0 → run = .next (queuedAgain s p sl n reason c)) ∧
    (sl.inForce.attemptLimit.toNat ≤ p.attempt →
      run = .next (retiredAfter s p sl n reason c .attemptsExhausted (reason.code.setWidth 32)))

/-- R126: the state after plan `p` has reached cursor 64 in slot `sl`. -/
def planSucceeded (s : State) (p : Plan) (sl : Slot) : State :=
  let i := p.slot
  let k : Dword := BitVec.ofNat 32 p.attempt
  let written : Dword := BitVec.ofNat 32 p.written
  let duration := s.now - p.grantTick
  { slotAfter s i { sl with
      cu := { sl.cu with st := .active, period := sl.cu.period + 1 }, trk := { sl.trk with answered := 0 }, attempt := 0,
      inc := sl.inc.file (incidentAt s 1 .recovered .active .none sl.port.epoch sl.attempt .none (some k) (some written)
        (some duration)),
      ou := sl.ouEnding s.now 4 .done .none k written duration }
      (s.attn ||| attentionMask i .incident ||| attentionMask i .stateChange ||| doneMask i sl 4) 1 [] with
    plan := none }

/-- R122, R123: the state after plan `p` has gone on to record `m` of slot `sl` and issued its write as entry `k`. -/
def recordWritten (s : State) (p : Plan) (sl : Slot) (k : Fin 32) (m : Fin 64) : State :=
  let next := p.writing sl.ctx m
  { slotAfter s p.slot (sl.withOpened s.now k (writeBody s sl next.hand)
      (writeSent s sl (downstreamTag (sl.trk.ort[k]).gen k) next.hand)) s.attn 0 [] with plan := some next }

/-- R122, R126: plan `p`, whose slot is then `sl`, moves its cursor to `n` in an event with outcome `run`: the next record
that it writes is `m`, written as the lowest FREE entry `k`, or none is left and it succeeds. -/
def MovesOn (s : State) (p : Plan) (sl : Slot) (n : Nat) (k : Fin 32) (m : Fin 64)
    (run : Host.Outcome State Fault Refusal) : Prop :=
  (FirstRecord Writes sl.ctx n m → LowestFree sl k → run = .next (recordWritten s p sl k m)) ∧
  (NoneEligible s → (∀ r : Fin 64, n ≤ r.val → ¬ Writes sl.ctx.records[r]) → run = .next (planSucceeded s p sl))

/-! ### The window -/

/-- A write of the one byte `v` at BAR offset `a`, in the dword that holds it. -/
def byteWrite (a : Nat) (v : Byte) : WindowWrite :=
  { offset := a - a % 4, bytes := List.replicate (a % 4) none ++ [some v] }

/-- The offset within its page of a BAR offset in the slot pages. -/
def inPage (a : Nat) : Bool := decide (0x1000 ≤ a) && decide (a < 0x9000)

/-- The BAR offsets of the cells that R151 has a software write store: Device Settings, Slot Settings, Context Header and
Restore Records, without the bytes that section 9.3 leaves unnamed. -/
def storedCell (a : Nat) : Bool :=
  let off := a % 0x1000
  (decide (0x120 ≤ a) && decide (a < 0x126)) ||
    (inPage a && ((decide (0x040 ≤ off) && decide (off < 0x06A) && off != 0x061) || off == 0x240
      || (decide (0x242 ≤ off) && decide (off < 0x24C)) || (decide (0x260 ≤ off) && decide (off < 0x660))))

/-- What a stored byte reads back as: bits 4 to 7 of a Restore Record's byte mask read 0 (section 9.3). -/
def readBack (a : Nat) (v : Byte) : Byte :=
  let off := a % 0x1000
  if inPage a = true ∧ 0x260 ≤ off ∧ off % 16 = 1 then v &&& 0x0F else v

/-- The BAR offsets at which R150 to R152 discard a software write: NOW, the upper bytes of DEVICE_CONTROL, the
identification, the sequencer view, the unrouted counter, the Result Blocks, Slot Status, the fields of an incident record
other than its state, and every byte that no map or layout names. -/
def discardedCell (a : Nat) : Bool :=
  let off := a % 0x1000
  (decide (0x008 ≤ a) && decide (a < 0x1000) && a != 0x00C && !(decide (0x120 ≤ a) && decide (a < 0x126))) ||
    decide (0x9000 ≤ a) ||
    (inPage a && ((decide (0x011 ≤ off) && decide (off < 0x040)) || off == 0x061
      || (decide (0x06A ≤ off) && decide (off < 0x140))
      || (decide (0x140 ≤ off) && decide (off < 0x240) && (off - 0x140) % 32 != 0) || off == 0x241
      || (decide (0x24C ≤ off) && decide (off < 0x260)) || decide (0x660 ≤ off)))

/-! ### Conditions that every step keeps -/

/-- R7, R45, R160, R161: what the settings in force keep to. -/
structure SettingsInv (s : State) : Prop where
  windowsDisjoint : ∀ i j : SlotId, i ≠ j → ∀ a : BitVec 64,
    ¬ (inRange (windowOf (s.slots[i]).inForce) a = true ∧ inRange (windowOf (s.slots[j]).inForce) a = true)
  busesDisjoint : ∀ i j : SlotId, i ≠ j → ∀ b : Byte,
    ¬ (inRange (busRangeOf (s.slots[i]).inForce) b = true ∧ inRange (busRangeOf (s.slots[j]).inForce) b = true)
  windows : ∀ i : SlotId, 1 ≤ (s.slots[i]).inForce.windowReadUs.toNat ∧ 1 ≤ (s.slots[i]).inForce.windowConfigUs.toNat
  stretch : ∀ i : SlotId, (s.slots[i]).inForce.stretch.toNat ≤ 3
  watchPeriod : ∀ i : SlotId, (s.slots[i]).inForce.watchPeriod.toNat ≤ 63
  tolerance : ∀ i : SlotId,
    1 ≤ (s.slots[i]).inForce.timeoutTolerance.toNat ∧ (s.slots[i]).inForce.timeoutTolerance.toNat ≤ 15
  attemptLimit : ∀ i : SlotId, 1 ≤ (s.slots[i]).inForce.attemptLimit.toNat ∧ (s.slots[i]).inForce.attemptLimit.toNat ≤ 7
  hold : ∀ i : SlotId, 1 ≤ (s.slots[i]).inForce.holdMs.toNat
  grace : ∀ i : SlotId, (s.slots[i]).inForce.graceUs.toNat ≤ 10000
  trainLimit : ∀ i : SlotId, 1 ≤ (s.slots[i]).inForce.trainLimitMs.toNat ∧ (s.slots[i]).inForce.trainLimitMs.toNat ≤ 1000
  settleLimit : ∀ i : SlotId,
    1 ≤ (s.slots[i]).inForce.settleLimitMs.toNat ∧ (s.slots[i]).inForce.settleLimitMs.toNat ≤ 2000
  settleRetry : ∀ i : SlotId,
    100 ≤ (s.slots[i]).inForce.settleRetryUs.toNat ∧ (s.slots[i]).inForce.settleRetryUs.toNat ≤ 10000
  ceiling : 100 ≤ s.device.ceilingUs.toNat ∧ s.device.ceilingUs.toNat ≤ 4194303
  codes : ∀ i : SlotId,
    (s.slots[i]).inForce.timeoutAction.toNat ≤ 1 ∧ (s.slots[i]).inForce.standinMode.toNat ≤ 1 ∧
      (s.slots[i]).inForce.fenceOnFatal.toNat ≤ 1 ∧ (s.slots[i]).inForce.autoRecover.toNat ≤ 1 ∧
      (s.slots[i]).inForce.priority.toNat ≤ 1
  returnLimit : 1 ≤ s.device.returnLimitMs.toNat ∧ s.device.returnLimitMs.toNat ≤ 1000

/-- R18, R20, R22, R86: what the tables of every slot keep to. -/
structure TableInv (s : State) : Prop where
  ageNodup : ∀ i : SlotId, (s.slots[i]).trk.age.Nodup
  ageLists : ∀ (i : SlotId) (k : Fin 32), k ∈ (s.slots[i]).trk.age ↔ ((s.slots[i]).trk.ort[k]).body ≠ none
  owed : ∀ (i : SlotId) (k : Fin 32) (b : OrtBody), ((s.slots[i]).trk.ort[k]).body = some b → b.bytesOwed ≤ b.bytesRequested
  holdDepth : ∀ i : SlotId, (s.slots[i]).trk.hold.length ≤ 8
  held : ∀ i : SlotId, ∀ h ∈ (s.slots[i]).trk.hold, h.body.bytesOwed = h.body.bytesRequested
  returned : ∀ (i : SlotId) (k : Fin 16) (b : ReturnBody), ((s.slots[i]).rmap[k]).body = some b → b.bytesOwed ≤ b.bytesRequested

/-- R99, R107, R111 to R113, R119, R125: what the slot states, the lines, the attempt numbers, the sequencer and the timers
of its plan keep to. -/
structure SequencerInv (s : State) : Prop where
  recovering : ∀ i : SlotId, (s.slots[i]).cu.st = .recovering ↔
    (s.queue[i] ≠ none ∨ ∃ p, s.plan = some p ∧ p.slot = i)
  notQueued : ∀ p, s.plan = some p → s.queue[p.slot] = none
  asserted : ∀ i : SlotId, (s.slots[i]).cu.st = .empty ∨ (s.slots[i]).cu.st = .offline ∨ (s.slots[i]).cu.st = .retired →
    (s.slots[i]).port.line = .asserted
  resetHold : ∀ p, s.plan = some p → p.phase = .resetHold → (s.slots[p.slot]).port.line = .asserted
  presence : ∀ i : SlotId, (s.slots[i]).port.accepted = .absent ↔ (s.slots[i]).cu.st = .empty
  linkDown : ∀ i : SlotId, (s.slots[i]).port.line = .asserted → (s.slots[i]).port.link = .down
  noAttempt : ∀ i : SlotId, (s.slots[i]).cu.st ≠ .recovering → (s.slots[i]).cu.st ≠ .retired → (s.slots[i]).attempt = 0
  attemptBound : ∀ i : SlotId, (s.slots[i]).attempt ≤ 7
  attemptOfPlan : ∀ p, s.plan = some p → p.attempt = (s.slots[p.slot]).attempt
  timers : ∀ p, s.plan = some p →
    (p.holdTick ≠ none → p.phase = .resetHold) ∧ (p.trainLimit ≠ none → p.phase = .training) ∧
      (p.settleLimit ≠ none → p.phase = .settling) ∧ (p.retryTick ≠ none → p.phase = .settling ∨ p.phase = .restoring) ∧
      (p.delayTick ≠ none → p.phase = .restoring) ∧ (p.retryLimit ≠ none → p.phase = .restoring)
  attemptOfEntry : ∀ (i : SlotId) (e : QueueEntry), s.queue[i] = some e → e.attempt = (s.slots[i]).attempt

end Sys2Proof.Machine
end

