-- ==== Sys2Proof/WellFormed.lean ====
section
/-! DEFINITION. Which commands have operands in the ranges the manual gives (R2 to R4, R155). The meanings take any
operands; a command that is not well formed is one that no link and no software can send (DESIGN CHOICE, log 25). -/

namespace Sys2Proof

/-- R2: the length is 1 to 1,024 dwords, the address is dword-aligned, and the last byte enables are present only at a
length of 2 or more. -/
def MemRequest.wf (r : MemRequest) : Bool :=
  decide (1 ≤ r.length) && decide (r.length ≤ 1024) && (r.address.extractLsb' 0 2 == 0#2)
    && (decide (2 ≤ r.length) || r.lastEnables == 0#4)

/-- A MEM_READ of 2 or more dwords enables a byte of its first and of its last dword: R2 gives the bytes requested as 2 to
4,096 then. DEDUCED (log 6). -/
def MemRequest.readWf (r : MemRequest) : Bool :=
  r.wf && (decide (r.length ≤ 1) || (r.firstEnables != 0#4 && r.lastEnables != 0#4))

/-- R2: a MEM_WRITE carries as many dwords as its length says. -/
def MemRequest.writeWf (r : MemRequest) (data : List Dword) : Bool :=
  r.wf && decide (data.length = r.length)

/-- R4: the byte count remaining is 1 to 4,096, and only a SUCCESS completion carries data. -/
def Completion.wf (c : Completion) : Bool :=
  decide (1 ≤ c.byteCount) && decide (c.byteCount ≤ 4096) && decide (c.data.length ≤ 1024)
    && (c.status == .success || c.data.isEmpty)

/-- R155: the codes outside APPLY to REINSTATE, NONE included. -/
def unknownOrderCode (code : Byte) : Bool :=
  decide (code.toNat = 0) || decide (7 < code.toNat)

/-- R150: a write inside the 64 KiB window starts at a dword of it. -/
def WindowWrite.wf (w : WindowWrite) : Bool :=
  decide (w.offset < 65536) && decide (w.offset % 4 = 0) && decide (w.bytes.length ≤ 4096)

/-- Every operand lies in the range the manual gives it. -/
def Instr.wf : Instr → Bool
  | .orderUnknownCode _ code _ _ => unknownOrderCode code
  | .swaWrite w => w.wf
  | .hostMemRead r => r.readWf
  | .hostMemWrite r data => r.writeWf data
  | .hostCompletion c => c.wf
  | .cardCompletion _ c => c.wf
  | .cardMemRead _ r => r.readWf
  | .cardMemWrite _ r data => r.writeWf data
  | .heldItemExpiry _ position => decide (position < 8)
  | .powerOnReset | .upstreamHotReset | .upstreamLinkDown | .hierarchyReset _ | .applyDevice
  | .attnWrite _ _ | .attnEnableWrite _ _ | .orderApply _ _ _ | .orderCapture _ _ _ | .orderFence _ _ _
  | .orderRecover _ _ _ | .orderLift _ _ _ | .orderRetire _ _ _ | .orderReinstate _ _ _
  | .orderCellWrite _ _ | .cancelCellWrite _ _ | .cancelTaken _ | .incidentStateWrite _ _ _
  | .hostCfgRead _ | .hostCfgWrite _ _ | .hostMessage _ | .hostUnrecognisedRequest _ _ _
  | .cardMessage _ _ | .cardConfigRequest _ _ _ _ | .waitingHostRequestRetaken | .cardReadHandover _
  | .presenceSample _ _ | .linkUp _ | .linkLoss _ | .deadlineExpiry _ _ | .controllerEntryExpiry _ _
  | .progressWatchExpiry _ | .fenceTrigger _ | .graceExpiry _ | .returnLifetimeExpiry _ _
  | .earliestStartReached _ | .planGrant | .holdTickExpiry | .trainLimitExpiry | .settleLimitExpiry
  | .retryTickExpiry | .delayTickExpiry | .retryLimitExpiry | .outboundBufferDrain _ _ => true

end Sys2Proof
end

