-- ==== Sys2Proof/Certificates/Slice0/Obligations.lean ====
section
/-! DEFINITION. The statements about the 2480 that are to be proved. In a statement `sl` is the slot before the event;
`slotAfter` gives the whole state after it, so that what it does not name is unchanged. -/

open Sys2Proof Sys2Proof.Machine

/-! ### Steps and resets -/

/-- A step takes the command at the front of the queue: it is `exec` of that command, a whole event, with the queue's rest in
place. That a waiting command is taken before any event that is due, and with NOW unmoved, is the model's choice (log 16). -/
def Obligations.StepTakesTheFrontCommand : Prop :=
  ∀ (c : Instr) (rest : List Instr) (s : State), s.pending = c :: rest → step s = exec c { s with pending := rest }

/-- On an empty queue a step takes the internal event that is due, and where none is due one microsecond passes (R43, R99).
That time passes so, and the order of due events, are the model's choice (log 16, log 17). -/
def Obligations.StepOnAnEmptyQueue : Prop :=
  ∀ s : State, s.pending = [] →
    (∀ c, s.nextDue = some c → step s = exec c s) ∧
    (s.nextDue = none → ∃ t, step s = .next t ∧ t = { s with now := s.now + 1, slots := t.slots } ∧
      ∀ i : SlotId, t.slots[i] =
        { s.slots[i] with port := { (s.slots[i]).port with sampleTimer := (s.slots[i]).port.sampleTimer - 1 } })

/-- R41, R43, R61, R98, R99, R109, R111, R136, R137, R164, R166, R171, R173: what a power-on reset leaves. The pins, what has
left the part, the queue of commands and the count of free bytes are the outside's and stay (log 8), and the management
function's values are the model's choice (log 3). -/
def Obligations.PowerOnReset : Prop :=
  ∀ s : State, ∃ t, exec .powerOnReset s = .next t ∧
    t.wires = s.wires ∧ t.freeIndex = s.freeIndex ∧ t.pending = s.pending ∧ t.mgmt = ManagementFunction.powerOn ∧
    t.now = 0 ∧ t.attn = 0 ∧ t.attnEnable = 0 ∧ t.unrouted = 0 ∧ t.incidentSerial = 0 ∧ t.plan = none ∧
    t.hostQueue = [] ∧ t.withheld = none ∧
    t.device = { ceilingUs := 40000, returnLimitMs := 100 } ∧ t.deviceCells = t.device ∧
    ∀ i : SlotId,
      let sl := t.slots[i]
      t.queue[i] = none ∧
      sl.cu.st = .empty ∧ sl.cu.cause = .none ∧ sl.cu.grace = none ∧ sl.cu.followUp = .none ∧
      sl.cu.tally = { start := 0, completions := 0, requests := 0 } ∧
      (∀ k : Fin 32, sl.trk.ort[k] = { gen := 0, body := none }) ∧ sl.trk.openCount = 0 ∧ sl.trk.age = [] ∧
      sl.trk.hold = [] ∧ sl.trk.waiting = none ∧ sl.trk.watch = .idle ∧ sl.trk.answered = 0 ∧
      (∀ k : Fin 16, sl.rmap[k] = { gen := 0, body := none }) ∧
      sl.port = { accepted := .absent, runCount := 0, sampleTimer := 1000, link := .down, upTick := 0, line := .asserted,
                  epoch := 0, outbound := [], waitingRead := none } ∧
      sl.ou = { cell := { owner := .software, code := 0, number := 0, priority := 0 }, cancel := false,
                result := { number := 0, code := 0, outcome := .none, reason := .none, detail1 := 0, detail2 := 0,
                            detail3 := 0, tick := 0 },
                order := none, collision := false } ∧
      sl.capture = none ∧ sl.attempt = 0 ∧ sl.setAside = 0 ∧
      sl.ctx.header = { identityValid := 0, captureSerial := 0, identity := 0, lastCaptureTick := 0 } ∧
      (∀ k : Fin 64, sl.ctx.records[k] = { state := 0, byteMask := 0, offset := 0, value := 0, verifyMask := 0, serial := 0,
                                           delay := 0, verify := 0 }) ∧
      (∀ k : Fin 8, (sl.inc.records[k]).filled = false) ∧ sl.inc.missed = 0 ∧
      sl.ctr = { postedDiscarded := 0, standinsIssued := 0, lateCompletions := 0, staleReturns := 0, cardTrafficDropped := 0,
                 overruns := 0, timeouts := 0 } ∧
      sl.inForce = { windowBase := 0xFFFFFFFFFFFFF000, windowLimit := 0, busFirst := 255, busLast := 0,
                     windowReadUs := 2000, windowConfigUs := 10000, paceNs := 16, stretch := 0, watchPeriod := 16,
                     timeoutAction := 0, timeoutTolerance := 1, standinMode := 0, fenceOnFatal := 1, autoRecover := 0,
                     priority := 0, attemptLimit := 3, holdMs := 10, graceUs := 100, trainLimitMs := 100,
                     settleLimitMs := 1000, settleRetryUs := 1000 } ∧
      sl.cells = sl.inForce

/-- R42, R60, R63, R98, R110, R135, R148, R166: what a hierarchy reset of any form makes of every slot, and what of the
device it keeps. The commanded form is stated for a machine in whose upstream link no request waits. That a CAPTURE ended
ABORTED has no details is the model's choice (log 37). -/
def Obligations.HierarchyResetOfSlots : Prop :=
  ∀ (s : State) (c : Instr),
    (c = .upstreamHotReset ∨ c = .upstreamLinkDown ∨
      (s.withheld = none ∧ (c = .hierarchyReset false ∨ c = .hierarchyReset true))) →
    ∃ t, exec c s = .next t ∧
      t.attn = 0 ∧ t.attnEnable = 0 ∧ t.plan = none ∧ t.withheld = none ∧ t.now = s.now ∧ t.unrouted = s.unrouted ∧
      t.incidentSerial = s.incidentSerial ∧ t.wires = s.wires ∧ t.freeIndex = s.freeIndex ∧ t.pending = s.pending ∧
      ∀ i : SlotId,
        let a := s.slots[i]
        let b := t.slots[i]
        let falls := a.cu.st ≠ .empty ∧ a.port.line = .released
        t.queue[i] = none ∧
        b.cu = { st := if a.cu.st = .empty then .empty else .offline, cause := .none, grace := none, followUp := .none,
                 tally := { start := 0, completions := 0, requests := 0 }, triggers := a.cu.triggers,
                 period := a.cu.period } ∧
        (∀ k : Fin 32, b.trk.ort[k] =
          if (a.trk.ort[k]).body = none then a.trk.ort[k] else { gen := (a.trk.ort[k]).gen + 1, body := none }) ∧
        b.trk.age = [] ∧ b.trk.hold = [] ∧ b.trk.waiting = none ∧ b.trk.watch = .idle ∧ b.trk.answered = 0 ∧
        (∀ k : Fin 16, b.rmap[k] =
          if (a.rmap[k]).body = none then a.rmap[k] else { gen := (a.rmap[k]).gen + 1, body := none }) ∧
        b.port = { a.port with
          line := if falls then .asserted else a.port.line, link := if falls then .down else a.port.link,
          epoch := if falls then a.port.epoch + 1 else a.port.epoch, outbound := [], waitingRead := none } ∧
        b.ou = { cell := if a.ou.order = none then a.ou.cell else { a.ou.cell with owner := .software }, cancel := false,
                 result := match a.ou.order with
                   | none => a.ou.result
                   | some o => { number := o.number, code := o.code, outcome := .aborted, reason := .none, detail1 := 0,
                                 detail2 := 0, detail3 := 0, tick := s.now },
                 order := none, collision := false } ∧
        b.capture = none ∧ b.ctx = a.ctx ∧ b.inc = a.inc ∧ b.cells = a.cells ∧ b.inForce = a.inForce ∧ b.attempt = 0 ∧
        b.setAside = a.setAside ∧
        b.ctr = { a.ctr with
          postedDiscarded := satAdd a.ctr.postedDiscarded (a.port.outbound.countP CardPacket.isPosted) }

/-- R42, R152, R165: what tells the forms of the hierarchy reset apart. The power-on values of the configuration space are
the model's choice (log 3). That after the commanded form only the first request in the link is decided, those behind it
staying there for later events, and that the link stays as it is where no request waits for a slot, are the model's reading
(log 21). -/
def Obligations.ResetForms : Prop :=
  ∀ s : State,
    (∀ c, c = .upstreamHotReset ∨ c = .upstreamLinkDown →
      ∃ t, exec c s = .next t ∧ t.mgmt = ManagementFunction.powerOn ∧ t.hostQueue = [] ∧ t.withheld = none ∧
        t.device = s.device ∧ t.deviceCells = s.deviceCells) ∧
    (s.withheld = none →
      ∃ t, exec (.hierarchyReset false) s = .next t ∧ t.mgmt = s.mgmt ∧ t.hostQueue = s.hostQueue ∧ t.device = s.device ∧
        t.deviceCells = s.deviceCells) ∧
    (s.withheld = none →
      ∃ t d, exec (.hierarchyReset true) s = .next t ∧ exec .applyDevice s = .next d ∧ t.mgmt = s.mgmt ∧
        t.hostQueue = s.hostQueue ∧ t.device = d.device ∧ t.deviceCells = d.deviceCells) ∧
    (∀ (w i : SlotId) (q : NonPosted) (rest : List HostRequest),
      s.withheld = some w → s.hostQueue = .known q :: rest → s.target (.known q) = .slot i →
      ∃ t, exec (.hierarchyReset false) s = .next t ∧ t.hostQueue = rest ∧ t.withheld = none ∧
        t.wires.upstream = s.wires.upstream ++ (newStandIns (s.slots[i]).inForce.standinMode
          (s.slots[i]).inForce.busFirst q).map .completion)

/-- R163: APPLY_DEVICE clamps the Device Settings, writes them back and puts them in force, and changes nothing else. -/
def Obligations.ApplyDeviceClamps : Prop :=
  ∀ s : State, ∃ d : DeviceSettings,
    exec .applyDevice s = .next { s with deviceCells := d, device := d } ∧
    d.ceilingUs.toNat = min (max s.deviceCells.ceilingUs.toNat 100) 4194303 ∧
    d.returnLimitMs.toNat = min (max s.deviceCells.returnLimitMs.toNat 1) 1000

/-! ### Software writes -/

/-- R167, R169: a write to ATTN clears the bits it sets to 1; a write to ATTN_ENABLE stores its enabled bytes and sends the
interrupt message if it fills the pending set. -/
def Obligations.FrontRegisterWrites : Prop :=
  ∀ (enables : BitVec 4) (value : Dword) (s : State),
    (∃ t, exec (.attnWrite enables value) s = .next t ∧ t = { s with attn := t.attn } ∧
      ∀ b : Nat, b < 24 → t.attn.getLsbD b = (s.attn.getLsbD b && !(enables.getLsbD (b / 8) && value.getLsbD b))) ∧
    (∃ e : BitVec 24, exec (.attnEnableWrite enables value) s = .next (withInterrupt s { s with attnEnable := e }) ∧
      ∀ b : Nat, b < 24 → e.getLsbD b = if enables.getLsbD (b / 8) then value.getLsbD b else s.attnEnable.getLsbD b)

/-- R17, R169: whatever the command, what has left the Upstream Port stays, what the event sends is added behind it, and an
interrupt message is added last exactly when the event takes the pending set from empty to non-empty with message
interrupts enabled. -/
def Obligations.UpstreamOnlyGrows : Prop :=
  ∀ (c : Instr) (s t : State), exec c s = .next t →
    ∃ sent : List HostPacket, (∀ a d, HostPacket.interrupt a d ∉ sent) ∧
      t.wires.upstream = s.wires.upstream ++ sent ++ interruptSent s t

/-- R153, R154, R158, R171: a write to the Cancel Cell, to the state of an incident record, to an Order Cell of owner SOFTWARE
that hands nothing over, and to one of owner CONTROLLER, which is discarded and sets order_collision. That a write touching
only bytes of the Order Cell that have no name counts too is the model's reading (log 29). -/
def Obligations.CellWrites : Prop :=
  ∀ (i : SlotId) (s : State),
    (∀ v : Byte, exec (.cancelCellWrite i v) s =
      .next (if v = 1 then
        { s with slots := s.slots.set i { s.slots[i] with ou := { (s.slots[i]).ou with cancel := true } } } else s)) ∧
    (∀ (k : Fin 8) (v : Byte), exec (.incidentStateWrite i k v) s =
      .next { s with slots := s.slots.set i { s.slots[i] with inc := { (s.slots[i]).inc with
        records := (s.slots[i]).inc.records.set k { (s.slots[i]).inc.records[k] with filled := v != 0 } } } }) ∧
    (∀ w : CellWrite, (s.slots[i]).ou.cell.owner = .software → w.owner ≠ some 1 →
      exec (.orderCellWrite i w) s =
        .next { s with slots := s.slots.set i { s.slots[i] with ou := { (s.slots[i]).ou with
          cell := { (s.slots[i]).ou.cell with
            code := w.code.getD (s.slots[i]).ou.cell.code,
            number := w.numberHigh.getD ((s.slots[i]).ou.cell.number.extractLsb' 8 8) ++
              w.numberLow.getD ((s.slots[i]).ou.cell.number.extractLsb' 0 8),
            priority := w.priority.getD (s.slots[i]).ou.cell.priority } } } }) ∧
    (∀ c : Instr, writesOrderCell i c = true → (s.slots[i]).ou.cell.owner = .controller →
      exec c s = .next { s with slots := s.slots.set i { s.slots[i] with ou := { (s.slots[i]).ou with collision := true } } })

/-- R150, R151: a byte written to a settings cell, a Context Header or a Restore Record reads back, every other byte of the
window reads as before, and no setting comes into force; a byte written where the map discards it changes nothing. -/
def Obligations.WindowWrites : Prop :=
  ∀ (a : Nat) (v : Byte) (s : State),
    (storedCell a = true →
      ∃ t, exec (.swaWrite (byteWrite a v)) s = .next t ∧ t.windowByte a = readBack a v ∧
        (∀ a' : Nat, a' ≠ a → t.windowByte a' = s.windowByte a') ∧
        t = { s with slots := t.slots, deviceCells := t.deviceCells } ∧
        ∀ i : SlotId, t.slots[i] = { s.slots[i] with cells := (t.slots[i]).cells, ctx := (t.slots[i]).ctx }) ∧
    (discardedCell a = true → exec (.swaWrite (byteWrite a v)) s = .next s)

/-! ### Orders -/

/-- R155, R156, R157: an order that is ended at once without effect: an unknown code, a state that refuses it, and a FENCE or
RETIRE that finds its end reached. -/
def Obligations.OrdersEndedAtOnce : Prop :=
  ∀ (i : SlotId) (number : BitVec 16) (priority : Byte) (s : State), (s.slots[i]).ou.cell.owner = .software →
    let sl := s.slots[i]
    let ends := fun (code : Byte) (outcome : OrderOutcome) (reason : Reason) (d1 d2 : Dword) =>
      (Host.Outcome.next (slotAfter s i { sl with ou := sl.ou.judged s.now code number priority outcome reason d1 d2 0 }
        (s.attn ||| attentionMask i .orderDone) 0 []) : Host.Outcome State Fault Refusal)
    let st : Dword := sl.cu.st.code.setWidth 32
    let link : Dword := sl.port.link.code.setWidth 32
    (∀ code : Byte, unknownOrderCode code = true →
      exec (.orderUnknownCode i code number priority) s = ends code .refusedCode .unknownCode (code.setWidth 32) 0) ∧
    (∀ o : OrderCode, refusedIn o sl.cu.st = true →
      exec (orderCommand o i number priority) s = ends o.code .refusedState .wrongState st link) ∧
    (sl.cu.st = .fenced →
      exec (.orderFence i number priority) s = ends 3 .already (.cause sl.cu.cause) 0 0) ∧
    (sl.cu.st = .retired → exec (.orderRetire i number priority) s = ends 6 .already .none st 0)

/-- R161: an APPLY that passes the routing check clamps the slot's settings, writes them back, puts them in force and ends
DONE with the number of settings that the clamping changed. -/
def Obligations.ApplyTakesSettings : Prop :=
  ∀ (i : SlotId) (number : BitVec 16) (priority : Byte) (s : State),
    let sl := s.slots[i]
    sl.ou.cell.owner = .software →
    (sl.cu.st = .active ∨ sl.cu.st = .fencing ∨ sl.cu.st = .recovering →
      windowOf sl.cells = windowOf sl.inForce ∧ busRangeOf sl.cells = busRangeOf sl.inForce) →
    (∀ k : SlotId, k ≠ i → overlaps (windowOf sl.cells) (windowOf (s.slots[k]).inForce) = false ∧
      overlaps (busRangeOf sl.cells) (busRangeOf (s.slots[k]).inForce) = false) →
    ∃ c : SlotSettings,
      exec (.orderApply i number priority) s =
        .next (slotAfter s i { sl with
          cells := c, inForce := c,
          ou := sl.ou.judged s.now 1 number priority .done .none (BitVec.ofNat 32 (clampedCount sl.cells c)) 0 0 }
          (s.attn ||| attentionMask i .orderDone) 0 []) ∧
      c.windowBase = sl.cells.windowBase ∧ c.windowLimit = sl.cells.windowLimit ∧ c.busFirst = sl.cells.busFirst ∧
      c.busLast = sl.cells.busLast ∧ c.paceNs = sl.cells.paceNs ∧
      c.windowReadUs.toNat = max sl.cells.windowReadUs.toNat 1 ∧
      c.windowConfigUs.toNat = max sl.cells.windowConfigUs.toNat 1 ∧
      c.stretch.toNat = min sl.cells.stretch.toNat 3 ∧ c.watchPeriod.toNat = min sl.cells.watchPeriod.toNat 63 ∧
      c.timeoutTolerance.toNat = min (max sl.cells.timeoutTolerance.toNat 1) 15 ∧
      c.attemptLimit.toNat = min (max sl.cells.attemptLimit.toNat 1) 7 ∧ c.holdMs.toNat = max sl.cells.holdMs.toNat 1 ∧
      c.trainLimitMs.toNat = min (max sl.cells.trainLimitMs.toNat 1) 1000 ∧
      c.settleLimitMs.toNat = min (max sl.cells.settleLimitMs.toNat 1) 2000 ∧
      c.graceUs.toNat = min sl.cells.graceUs.toNat 10000 ∧
      c.settleRetryUs.toNat = min (max sl.cells.settleRetryUs.toNat 100) 10000 ∧
      c.timeoutAction.toNat = min sl.cells.timeoutAction.toNat 1 ∧ c.standinMode.toNat = min sl.cells.standinMode.toNat 1 ∧
      c.fenceOnFatal.toNat = min sl.cells.fenceOnFatal.toNat 1 ∧ c.autoRecover.toNat = min sl.cells.autoRecover.toNat 1 ∧
      c.priority.toNat = min sl.cells.priority.toNat 1

/-- R160, R157: an APPLY that changes the routing of a locked slot, or that overlaps another slot's routing in force, is
refused and changes no setting. -/
def Obligations.ApplyRefused : Prop :=
  ∀ (i : SlotId) (number : BitVec 16) (priority : Byte) (s : State),
    let sl := s.slots[i]
    let refused := fun (reason : Reason) (d1 d2 : Dword) =>
      (Host.Outcome.next (slotAfter s i
        { sl with ou := sl.ou.judged s.now 1 number priority .refusedSettings reason d1 d2 0 }
        (s.attn ||| attentionMask i .orderDone) 0 []) : Host.Outcome State Fault Refusal)
    let locked := sl.cu.st = .active ∨ sl.cu.st = .fencing ∨ sl.cu.st = .recovering
    let sameRoute := windowOf sl.cells = windowOf sl.inForce ∧ busRangeOf sl.cells = busRangeOf sl.inForce
    let window := fun k : SlotId => k ≠ i ∧ overlaps (windowOf sl.cells) (windowOf (s.slots[k]).inForce) = true
    let bus := fun k : SlotId => k ≠ i ∧ overlaps (busRangeOf sl.cells) (busRangeOf (s.slots[k]).inForce) = true
    sl.ou.cell.owner = .software →
    (locked → ¬ sameRoute →
      exec (.orderApply i number priority) s = refused .routingLocked (sl.cu.st.code.setWidth 32) 0) ∧
    ((locked → sameRoute) → ∀ k : SlotId, window k → (∀ j, j < k → ¬ window j) →
      exec (.orderApply i number priority) s = refused .routingOverlap (BitVec.ofNat 32 k.val) 0) ∧
    ((locked → sameRoute) → (∀ j, ¬ window j) → ∀ k : SlotId, bus k → (∀ j, j < k → ¬ bus j) →
      exec (.orderApply i number priority) s = refused .routingOverlap (BitVec.ofNat 32 k.val) 1)

/-- R140, R24: a CAPTURE order in ACTIVE starts the engine, whose identity read opens the lowest FREE entry or waits for
one. That the read enables all four bytes, and the offset 0 in hand, are the model's choice (log 10, log 36). -/
def Obligations.CaptureStarts : Prop :=
  ∀ (i : SlotId) (number : BitVec 16) (priority : Byte) (s : State),
    let sl := s.slots[i]
    let begun := { sl with
      ou := sl.ou.begun 2 number priority (orderLevel priority sl.inForce) .active,
      capture := some { step := .identity, offsetInHand := 0, cursor := 0, recordsRead := 0, recordsFailed := 0,
                        firstFailed := 64, identityResult := .none, stop := false } }
    sl.ou.cell.owner = .software → sl.cu.st = .active →
    (∀ k, LowestFree sl k →
      exec (.orderCapture i number priority) s =
        .next (slotAfter s i (begun.withOpened s.now k (readBody s sl .capture 0)
          (readSent s sl (downstreamTag (sl.trk.ort[k]).gen k) 0)) (s.attn &&& ~~~ attentionMask i .orderDone) 0 [])) ∧
    ((∀ k : Fin 32, (sl.trk.ort[k]).body ≠ none) →
      exec (.orderCapture i number priority) s =
        .next (slotAfter s i { begun with trk := { sl.trk with
          waiting := some { owner := .capture, offset := 0, write := none } } }
          (s.attn &&& ~~~ attentionMask i .orderDone) 0 []))

/-- R74: a FENCE, RECOVER or RETIRE order taken in ACTIVE reports a trigger with cause ORDER, in FENCING it reports none;
RECOVER and RETIRE set the follow-up; each order stays in progress. -/
def Obligations.OrdersAgainstAFence : Prop :=
  ∀ (i : SlotId) (number : BitVec 16) (priority : Byte) (o : OrderCode) (s : State),
    let sl := s.slots[i]
    let level := orderLevel priority sl.inForce
    o = .fence ∨ o = .recover ∨ o = .retire → sl.ou.cell.owner = .software → sl.cu.st = .active ∨ sl.cu.st = .fencing →
    exec (orderCommand o i number priority) s =
      .next (slotAfter s i { sl with
        ou := sl.ou.begun o.code number priority level sl.cu.st,
        cu := { sl.cu with
          followUp := if o = .recover then .recover level else if o = .retire then .retire else sl.cu.followUp,
          triggers := if sl.cu.st = .active then sl.cu.triggers ++ [{ cause := .order, period := sl.cu.period }]
            else sl.cu.triggers } }
        (s.attn &&& ~~~ attentionMask i .orderDone) 0 [])

/-- R113 to R116, R118: a RECOVER order taken in OFFLINE or FENCED makes the slot RECOVERING at attempt 1; it waits in the
Recovery Queue while a plan runs that it cannot set aside, is granted at once by an idle sequencer with no other eligible
entry, and at URGENT sets aside a ROUTINE plan in RESET_HOLD or TRAINING. Taken in RECOVERING it adopts the recovery: ROUTINE
changes nothing of it, URGENT raises the level of the queue entry, which may then set the plan aside, or of the current
plan. What a granted plan shows of its restore is the model's choice (log 35). -/
def Obligations.RecoverFromRest : Prop :=
  ∀ (i : SlotId) (number : BitVec 16) (priority : Byte) (s : State),
    let sl := s.slots[i]
    let run := exec (.orderRecover i number priority) s
    let level := orderLevel priority sl.inForce
    let begun := { sl with ou := sl.ou.begun 4 number priority level sl.cu.st }
    let attn := s.attn &&& ~~~ attentionMask i .orderDone
    sl.ou.cell.owner = .software →
    (sl.cu.st = .offline ∨ sl.cu.st = .fenced → Joins s i begun level (attn ||| attentionMask i .stateChange) 0 [] run) ∧
    (sl.cu.st = .recovering →
      (level = .routine → run = .next (slotAfter s i begun attn 0 [])) ∧
      (∀ e, s.queue[i] = some e → level = .urgent →
        (PlanRunsOn s ∨ NoneEligible s →
          run = .next { slotAfter s i begun attn 0 [] with queue := s.queue.set i (some { e with level := .urgent }) }) ∧
        (∀ p, s.plan = some p → e.eligible = true → OthersWait s i → p.level = .routine →
          p.phase = .resetHold ∨ p.phase = .training → p.stop = false → p.slot ≠ i →
          run = .next (setAsideFor s p i begun e.attempt (attn ||| attentionMask i .stateChange) 0 []))) ∧
      (∀ p, s.plan = some p → level = .urgent → s.queue[i] = none → p.slot = i →
        run = .next { slotAfter s i begun attn 0 [] with plan := some { p with level := .urgent } }))

/-- R76: a LIFT order taken for a FENCED slot makes it ACTIVE with the answered count 0 and the cause kept, and ends DONE, if
the link is UP; with the link DOWN or TRAINING the slot stays FENCED and the order is refused with LINK_NOT_UP. -/
def Obligations.LiftReturnsToService : Prop :=
  ∀ (i : SlotId) (number : BitVec 16) (priority : Byte) (s : State),
    let sl := s.slots[i]
    sl.ou.cell.owner = .software → sl.cu.st = .fenced →
    (sl.port.link = .up →
      exec (.orderLift i number priority) s =
        .next (slotAfter s i { sl with
          cu := { sl.cu with st := .active, period := sl.cu.period + 1 }, trk := { sl.trk with answered := 0 },
          ou := sl.ou.judged s.now 5 number priority .done .none (sl.cu.cause.code.setWidth 32) 0 0 }
          (s.attn ||| attentionMask i .orderDone ||| attentionMask i .stateChange) 0 [])) ∧
    (sl.port.link ≠ .up →
      exec (.orderLift i number priority) s =
        .next (slotAfter s i { sl with
          ou := sl.ou.judged s.now 5 number priority .refusedState .linkNotUp (sl.cu.st.code.setWidth 32)
            (sl.port.link.code.setWidth 32) 0 }
          (s.attn ||| attentionMask i .orderDone) 0 []))

/-- R25, R77, R134: a RETIRE order taken in OFFLINE or FENCED, where nothing is owed, or in RECOVERING makes the slot RETIRED
with its reset line asserted, files RETIRED and ends DONE. In RECOVERING the queue entry is removed or the current plan
abandoned with its request, and the attempt number stays. -/
def Obligations.RetireFromRest : Prop :=
  ∀ (i : SlotId) (number : BitVec 16) (priority : Byte) (s : State),
    let sl := s.slots[i]
    let run := exec (.orderRetire i number priority) s
    let a := sl.asserted
    let st : Dword := sl.cu.st.code.setWidth 32
    let retired := fun (trk : Tracker) =>
      slotAfter s i { a with
        cu := { sl.cu with st := .retired, grace := none, followUp := .none }, trk := trk,
        inc := sl.inc.file (incidentAt s 1 .retired .retired .none a.port.epoch sl.attempt (.cause .order) (some st) none none),
        ou := sl.ou.judged s.now 6 number priority .done .none st 0 0 }
        (s.attn ||| attentionMask i .orderDone ||| attentionMask i .incident ||| attentionMask i .stateChange) 1 []
    sl.ou.cell.owner = .software →
    (sl.cu.st = .offline ∨ sl.cu.st = .fenced → sl.Quiet → run = .next (retired sl.trk)) ∧
    (∀ e, s.queue[i] = some e → sl.cu.st = .recovering → sl.Quiet → (∀ p, s.plan = some p → p.slot ≠ i) →
      s.plan ≠ none ∨ OthersWait s i → run = .next { retired sl.trk with queue := s.queue.set i none }) ∧
    (∀ p, s.plan = some p → sl.cu.st = .recovering → p.slot = i → s.queue[i] = none → NoneEligible s →
      ∀ trk, PlanRequestEnded sl trk → run = .next { retired trk with plan := none })

/-- R78: a REINSTATE order taken for a RETIRED slot makes it OFFLINE at attempt 0 with its reset line as it was, raises
STATE_CHANGE and ends DONE. -/
def Obligations.ReinstateLeavesRetired : Prop :=
  ∀ (i : SlotId) (number : BitVec 16) (priority : Byte) (s : State),
    let sl := s.slots[i]
    sl.ou.cell.owner = .software → sl.cu.st = .retired →
    exec (.orderReinstate i number priority) s =
      .next (slotAfter s i { sl with
        cu := { sl.cu with st := .offline }, attempt := 0,
        ou := sl.ou.judged s.now 7 number priority .done .none 0 0 0 }
        (s.attn ||| attentionMask i .orderDone ||| attentionMask i .stateChange) 0 [])

/-- R131: a cancel taken for a RECOVER order whose slot is QUEUED removes the entry, makes the slot OFFLINE or FENCED by its
reset line at attempt 0, raises STATE_CHANGE and ends the order CANCELLED. -/
def Obligations.CancelOfAQueuedRecovery : Prop :=
  ∀ (i : SlotId) (s : State),
    let sl := s.slots[i]
    ∀ o, sl.ou.order = some o → ∀ e, s.queue[i] = some e →
    sl.ou.cancel = true → o.code = 4 → sl.cu.st = .recovering →
    exec (.cancelTaken i) s =
      .next { slotAfter s i { sl with
        cu := { sl.cu with st := if sl.port.line = .asserted then .offline else .fenced }, attempt := 0,
        ou := { sl.ou.ended s.now o .cancelled .none (BitVec.ofNat 32 sl.attempt) 0 0 with cancel := false } }
        (s.attn ||| attentionMask i .orderDone ||| attentionMask i .stateChange) 0 [] with queue := s.queue.set i none }

/-- R158, R74, R132, R146: a cancel taken otherwise: without a latched cancel nothing happens (log 18); for no order or one
that takes none it is only cleared; for a RECOVER on its way through a fence it ends the order and the follow-up; for a
running plan it sets the stop request; for a capture it sets the capture's where its read is OPEN, and ends it CANCELLED with
its counts where its request waits for an entry. -/
def Obligations.CancelOtherwise : Prop :=
  ∀ (i : SlotId) (s : State),
    let sl := s.slots[i]
    let cleared := { sl.ou with cancel := false }
    (sl.ou.cancel = false → exec (.cancelTaken i) s = .next s) ∧
    (sl.ou.cancel = true → (∀ o, sl.ou.order = some o → o.code ≠ 2 ∧ o.code ≠ 4) →
      exec (.cancelTaken i) s = .next { s with slots := s.slots.set i { sl with ou := cleared } }) ∧
    (∀ o, sl.ou.order = some o → sl.ou.cancel = true → o.code = 4 → sl.cu.st = .active ∨ sl.cu.st = .fencing →
      exec (.cancelTaken i) s =
        .next (slotAfter s i { sl with
          cu := { sl.cu with followUp := .none },
          ou := { sl.ou.ended s.now o .cancelled .none (BitVec.ofNat 32 sl.attempt) 0 0 with cancel := false } }
          (s.attn ||| attentionMask i .orderDone) 0 [])) ∧
    (∀ o, sl.ou.order = some o → ∀ p, s.plan = some p → sl.ou.cancel = true → o.code = 4 → sl.cu.st = .recovering →
      s.queue[i] = none → p.slot = i →
      exec (.cancelTaken i) s =
        .next { s with slots := s.slots.set i { sl with ou := cleared }, plan := some { p with stop := true } }) ∧
    (∀ o, sl.ou.order = some o → ∀ c, sl.capture = some c → ∀ k : Fin 32, ∀ b, (sl.trk.ort[k]).body = some b →
      sl.ou.cancel = true → o.code = 2 → b.origin = .controller .capture →
      exec (.cancelTaken i) s =
        .next { s with slots := s.slots.set i { sl with ou := cleared, capture := some { c with stop := true } } }) ∧
    (∀ o, sl.ou.order = some o → ∀ c, sl.capture = some c → ∀ w, sl.trk.waiting = some w →
      sl.ou.cancel = true → o.code = 2 → w.owner = .capture →
      (∀ k : Fin 32, ∀ b, (sl.trk.ort[k]).body = some b → b.origin ≠ .controller .capture) →
      exec (.cancelTaken i) s =
        .next (slotAfter s i { sl with
          trk := { sl.trk with waiting := none }, capture := none,
          ou := { sl.ou.ended s.now o .cancelled .none (BitVec.ofNat 32 c.recordsRead) (BitVec.ofNat 32 c.recordsFailed)
            (BitVec.ofNat 32 c.firstFailed) with cancel := false } } (s.attn ||| attentionMask i .orderDone) 0 []))

/-! ### Host traffic -/

/-- R13, R19 to R21, R47, R56: a host non-posted request for an ACTIVE slot whose Hold Queue is empty opens the lowest FREE
entry and is sent to the card under its downstream tag. -/
def Obligations.HostRequestOpensEntry : Prop :=
  ∀ (i : SlotId) (k : Fin 32) (q : NonPosted) (s : State),
    let sl := s.slots[i]
    s.hostQueue = [] → s.target (.known q) = .slot i → sl.cu.st = .active → sl.trk.hold = [] → LowestFree sl k →
    exec (hostCommand q) s =
      .next (slotAfter s i (sl.withOpened s.now k (requestBody s sl q)
        (requestSent s sl (downstreamTag (sl.trk.ort[k]).gen k) q)) s.attn 0 [])

/-- R21 to R23: a host non-posted request for an ACTIVE slot that cannot take an entry joins the Hold Queue; with 32 entries
OPEN and 8 held it is left in the link and the credits are withheld; while a request waits there, every other waits behind
it. -/
def Obligations.HostRequestWaits : Prop :=
  ∀ (i : SlotId) (q : NonPosted) (rid : BitVec 16) (tag : BitVec 10) (s : State),
    let sl := s.slots[i]
    let full := ∀ k : Fin 32, (sl.trk.ort[k]).body ≠ none
    (s.hostQueue = [] → s.target (.known q) = .slot i → sl.cu.st = .active → (sl.trk.hold ≠ [] ∨ full) →
      sl.trk.hold.length < 8 →
      exec (hostCommand q) s =
        .next { s with slots := s.slots.set i { sl with trk := { sl.trk with
          hold := sl.trk.hold ++ [{ body := requestBody s sl q, request := formForCard sl.inForce.busFirst q }] } } }) ∧
    (s.hostQueue = [] → s.target (.known q) = .slot i → sl.cu.st = .active → full → sl.trk.hold.length = 8 →
      exec (hostCommand q) s = .next { s with hostQueue := [.known q], withheld := some i }) ∧
    (s.hostQueue ≠ [] → exec (hostCommand q) s = .next { s with hostQueue := s.hostQueue ++ [.known q] }) ∧
    (s.hostQueue ≠ [] → exec (.hostUnrecognisedRequest rid tag true) s =
      .next { s with hostQueue := s.hostQueue ++ [.unrecognised rid tag] })

/-- R13, R84, R85: a host non-posted request for a slot that is not ACTIVE is answered at once by stand-ins for its full bytes
requested and changes nothing else but standins_issued. -/
def Obligations.HostRequestAnsweredByStandIns : Prop :=
  ∀ (i : SlotId) (q : NonPosted) (s : State),
    let sl := s.slots[i]
    let cs := standIns sl.inForce.standinMode (requesterOf q) (tagOf q) (kindOf (formForCard sl.inForce.busFirst q))
      (bytesRequested q) (bytesRequested q)
    s.hostQueue = [] → s.target (.known q) = .slot i → sl.cu.st ≠ .active →
    exec (hostCommand q) s =
      .next (slotAfter s i { sl with ctr := { sl.ctr with standinsIssued := satAdd sl.ctr.standinsIssued cs.length } }
        s.attn 0 (cs.map .completion))

/-- R6, R11: a host request with no target is answered UNSUPPORTED if non-posted and discarded if posted, and the unrouted
counter rises. -/
def Obligations.UnroutedTraffic : Prop :=
  ∀ (q : NonPosted) (r : MemRequest) (data : List Dword) (rid : BitVec 16) (tag : BitVec 10) (bus : Byte)
    (cls : MessageClass) (s : State),
    let counted := { s with unrouted := if s.unrouted = 0xFFFFFFFF then s.unrouted else s.unrouted + 1 }
    let answered := fun (c : Completion) =>
      (Host.Outcome.next { counted with wires := { s.wires with upstream := s.wires.upstream ++ [.completion c] } } :
        Host.Outcome State Fault Refusal)
    (s.hostQueue = [] → s.target (.known q) = .unrouted →
      exec (hostCommand q) s = answered
        { requesterId := requesterOf q, tag := tagOf q, status := .unsupported,
          byteCount := match q with
            | .memRead r => memBytesRequested r
            | .cfgRead _ => 4
            | .cfgWrite _ _ => 4,
          lowerAddress := match q with
            | .memRead r => (firstByteAddress r).setWidth 7
            | .cfgRead _ => 0
            | .cfgWrite _ _ => 0,
          data := [] }) ∧
    (s.hostQueue = [] → exec (.hostUnrecognisedRequest rid tag true) s =
      answered { requesterId := rid, tag := tag, status := .unsupported, byteCount := 4, lowerAddress := 0, data := [] }) ∧
    (exec (.hostUnrecognisedRequest rid tag false) s = .next counted) ∧
    (s.memTarget r.address = .unrouted → exec (.hostMemWrite r data) s = .next counted) ∧
    ((∀ k : SlotId, inRange (busRangeOf (s.slots[k]).inForce) bus = false) →
      exec (.hostMessage { cls := cls, requesterId := rid, routing := .toBus bus }) s = .next counted)

/-- R7 to R10: the target of a host request: the BAR before the windows, the 4 KiB blocks of a window, the buses of a range,
and the management function for form LOCAL, device 0, function 0. -/
def Obligations.Routing : Prop :=
  ∀ (i : SlotId) (r : MemRequest) (c : CfgRequest) (s : State),
    let f := (s.slots[i]).inForce
    SettingsInv s →
    (∀ base, s.mgmt.bar = some base → base.toNat ≤ r.address.toNat → r.address.toNat < base.toNat + 65536 →
      s.target (.known (.memRead r)) = .window ∧ s.memTarget r.address = .window) ∧
    ((∀ base, s.mgmt.bar = some base → ¬ (base.toNat ≤ r.address.toNat ∧ r.address.toNat < base.toNat + 65536)) →
      s.target (.known (.memRead r)) = s.memTarget r.address ∧
      (s.memTarget r.address = .slot i ↔
        f.windowBase.toNat / 4096 ≤ r.address.toNat / 4096 ∧ r.address.toNat / 4096 ≤ f.windowLimit.toNat / 4096) ∧
      (s.memTarget r.address = .unrouted ∨ ∃ k, s.memTarget r.address = .slot k)) ∧
    (c.form = .localForm → s.target (.known (.cfgRead c)) =
      if c.device = 0 ∧ c.function = 0 then .management else .unrouted) ∧
    (c.form = .routedForm →
      (s.target (.known (.cfgRead c)) = .slot i ↔
        f.busFirst.toNat ≤ c.bus.toNat ∧ c.bus.toNat ≤ f.busLast.toNat) ∧
      (s.target (.known (.cfgRead c)) = .unrouted ∨ ∃ k, s.target (.known (.cfgRead c)) = .slot k)) ∧
    (∀ d, s.target (.known (.cfgWrite c d)) = s.target (.known (.cfgRead c)))

/-- R5, R10, R14: a host posted write or message is forwarded to the card of an ACTIVE slot and otherwise discarded and
counted; a broadcast does so at every slot; a message for the controller changes nothing. That
a forwarded message carries the host's requester id is the model's choice (log 38). -/
def Obligations.HostPostedTraffic : Prop :=
  ∀ (i : SlotId) (r : MemRequest) (data : List Dword) (bus : Byte) (cls : MessageClass) (rid : BitVec 16) (s : State),
    let posted := fun (p : CardPacket) (sl : Slot) =>
      if sl.cu.st = .active then { sl with port := { sl.port with outbound := sl.port.outbound ++ [p] } }
      else { sl with ctr := { sl.ctr with postedDiscarded :=
        if sl.ctr.postedDiscarded = 0xFFFFFFFF then sl.ctr.postedDiscarded else sl.ctr.postedDiscarded + 1 } }
    let message := fun (routing : MessageRouting) => HostMessage.mk cls rid routing
    (s.memTarget r.address = .slot i →
      exec (.hostMemWrite r data) s =
        .next { s with slots := s.slots.set i (posted (.memWrite r data) s.slots[i]) }) ∧
    (inRange (busRangeOf (s.slots[i]).inForce) bus = true →
      (∀ k : SlotId, k ≠ i → inRange (busRangeOf (s.slots[k]).inForce) bus = false) →
      exec (.hostMessage (message (.toBus bus))) s =
        .next { s with slots := s.slots.set i (posted (.message (message (.toBus bus))) s.slots[i]) }) ∧
    (∃ t, exec (.hostMessage (message .broadcast)) s = .next t ∧ t = { s with slots := t.slots } ∧
      ∀ k : SlotId, t.slots[k] = posted (.message (message .broadcast)) s.slots[k]) ∧
    exec (.hostMessage (message .toController)) s = .next s

/-- R4, R8, R150: a host read of the BAR is answered SUCCESS with the bytes of the window as they stand, a host write to it is
a write to the window, and the management function answers for its configuration space. That one completion carries the
whole read is the model's choice (log 4), as are the bytes of its data outside the bytes requested (log 1) and what the
configuration space holds (log 2). -/
def Obligations.ControllerTraffic : Prop :=
  ∀ (r : MemRequest) (a : Nat) (c : CfgRequest) (d : Dword) (data : List Dword) (s : State),
    let answer := fun (data : List Dword) =>
      Completion.mk c.requesterId c.tag .success 4 0 data
    (s.hostQueue = [] → s.barOffset r.address = some a →
      ∃ t, exec (.hostMemRead r) s = .next t ∧ t = { s with freeIndex := t.freeIndex, wires := t.wires } ∧
        t.wires = { s.wires with upstream := t.wires.upstream } ∧
        SentCompletion s t fun f =>
          f.requesterId = r.requesterId ∧ f.tag = r.tag ∧ f.status = .success ∧ f.byteCount = memBytesRequested r ∧
          f.lowerAddress = (firstByteAddress r).setWidth 7 ∧
          f.data.length = ((firstByteAddress r).toNat % 4 + memBytesRequested r + 3) / 4 ∧
          ∀ j, j < memBytesRequested r → (dwordBytes f.data)[(firstByteAddress r).toNat % 4 + j]? =
            some (s.windowByte (a + (firstByteAddress r - r.address).toNat + j))) ∧
    (s.barOffset r.address = some a → exec (.hostMemWrite r data) s = exec (.swaWrite (windowWriteOf r data a)) s) ∧
    (s.hostQueue = [] → c.form = .localForm → c.device = 0 → c.function = 0 →
      exec (.hostCfgRead c) s =
        .next { s with wires := { s.wires with
          upstream := s.wires.upstream ++ [.completion (answer [Config.managementRead s.mgmt c.offset])] } } ∧
      exec (.hostCfgWrite c d) s =
        .next { s with
          mgmt := Config.managementWrite s.mgmt c.bus c.device c.function c.offset c.enables d,
          wires := { s.wires with upstream := s.wires.upstream ++ [.completion (answer [])] } })

/-- R89 to R91, R94: a host completion under the upstream tag of an OPEN entry of an ACTIVE slot is forwarded to the card
under the card's own requester id and tag; the entry is freed when nothing is owed or the status is not SUCCESS, and a card
read that waits for it then takes it. -/
def Obligations.HostCompletionForwarded : Prop :=
  ∀ (i : SlotId) (k : Fin 16) (c : Completion) (s : State),
    let sl := s.slots[i]
    ∀ b, (sl.rmap[k]).body = some b → sl.cu.st = .active →
    let owed := b.bytesOwed - min (bytesCarried c) b.bytesOwed
    let sent := CardPacket.completion { c with requesterId := b.requesterId, tag := b.tag }
    let port := { sl.port with outbound := sl.port.outbound ++ [sent] }
    let run := exec (.hostCompletion { c with tag := upstreamTag i (sl.rmap[k]).gen k }) s
    (c.status = .success → owed ≠ 0 →
      run = .next { s with slots := s.slots.set i { sl with
        port := port, rmap := sl.rmap.set k { gen := (sl.rmap[k]).gen, body := some { b with bytesOwed := owed } } } }) ∧
    (c.status ≠ .success ∨ owed = 0 → sl.port.waitingRead = none →
      run = .next { s with slots := s.slots.set i { sl with
        port := port, rmap := sl.rmap.set k { gen := (sl.rmap[k]).gen + 1, body := none } } }) ∧
    (c.status ≠ .success ∨ owed = 0 → (∀ j : Fin 16, j ≠ k → (sl.rmap[j]).body ≠ none) →
      ∀ r, sl.port.waitingRead = some r →
      run = .next (slotAfter s i { sl with
        port := { port with waitingRead := none },
        rmap := sl.rmap.set k { gen := (sl.rmap[k]).gen + 1, body := some {
          requesterId := r.requesterId, tag := r.tag, bytesRequested := memBytesRequested r,
          bytesOwed := memBytesRequested r, expiry := s.now + BitVec.ofNat 32 (s.device.returnLimitMs.toNat * 1000) } } }
        s.attn 0 [.memRead { r with
          requesterId := s.mgmt.requesterId, tag := upstreamTag i ((sl.rmap[k]).gen + 1) k }]))

/-- R90, R92, R93: a host completion that matches no OPEN entry is absorbed and only stale_returns of the slot its tag names
rises; one that matches in a slot that is not ACTIVE is absorbed and counted too, and is accounted to its entry. -/
def Obligations.StaleReturns : Prop :=
  ∀ (i : SlotId) (k : Fin 16) (c : Completion) (s : State),
    let sl := s.slots[i]
    let stale := { sl.ctr with
      staleReturns := if sl.ctr.staleReturns = 0xFFFFFFFF then sl.ctr.staleReturns else sl.ctr.staleReturns + 1 }
    (i.val = c.tag.toNat / 128 →
      (∀ j : Fin 16, (sl.rmap[j]).body ≠ none → c.tag ≠ upstreamTag i (sl.rmap[j]).gen j) →
      exec (.hostCompletion c) s = .next { s with slots := s.slots.set i { sl with ctr := stale } }) ∧
    (∀ b, (sl.rmap[k]).body = some b → sl.cu.st ≠ .active → sl.port.waitingRead = none →
      let owed := b.bytesOwed - min (bytesCarried c) b.bytesOwed
      exec (.hostCompletion { c with tag := upstreamTag i (sl.rmap[k]).gen k }) s =
        .next { s with slots := s.slots.set i { sl with
          ctr := stale,
          rmap := sl.rmap.set k (if c.status ≠ .success ∨ owed = 0 then { gen := (sl.rmap[k]).gen + 1, body := none }
            else { gen := (sl.rmap[k]).gen, body := some { b with bytesOwed := owed } }) } })

/-- R21, R23: the request that waits first in the link is decided anew, as if it arrived with no other before it: it joins
the Hold Queue where that has room, waits once more where it has none, and is answered by stand-ins where its slot has left
ACTIVE; the credits are granted again unless it waits. That those behind it stay in the link for later events, and that
with none in the link only the credits are granted, are the model's reading (log 21). -/
def Obligations.WaitingRequestRetaken : Prop :=
  ∀ (i : SlotId) (q : NonPosted) (rest : List HostRequest) (rid : BitVec 16) (tag : BitVec 10) (s : State),
    let sl := s.slots[i]
    let full := ∀ k : Fin 32, (sl.trk.ort[k]).body ≠ none
    let run := exec .waitingHostRequestRetaken { s with hostQueue := .known q :: rest }
    let alone := { s with hostQueue := [], withheld := none }
    (exec .waitingHostRequestRetaken { s with hostQueue := [] } = .next { s with hostQueue := [], withheld := none }) ∧
    (∃ t, exec (hostCommand q) alone = .next t ∧ run = .next { t with hostQueue := t.hostQueue ++ rest }) ∧
    (∃ t, exec (.hostUnrecognisedRequest rid tag true) alone = .next t ∧
      exec .waitingHostRequestRetaken { s with hostQueue := .unrecognised rid tag :: rest } =
        .next { t with hostQueue := rest }) ∧
    (s.target (.known q) = .slot i → sl.cu.st = .active → (sl.trk.hold ≠ [] ∨ full) → sl.trk.hold.length < 8 →
      run = .next { s with
        hostQueue := rest, withheld := none,
        slots := s.slots.set i { sl with trk := { sl.trk with
          hold := sl.trk.hold ++ [{ body := requestBody s sl q, request := formForCard sl.inForce.busFirst q }] } } }) ∧
    (s.target (.known q) = .slot i → sl.cu.st = .active → full → sl.trk.hold.length = 8 →
      run = .next { s with hostQueue := .known q :: rest, withheld := some i }) ∧
    (s.target (.known q) = .slot i → sl.cu.st ≠ .active →
      let cs := standIns sl.inForce.standinMode (requesterOf q) (tagOf q) (kindOf (formForCard sl.inForce.busFirst q))
        (bytesRequested q) (bytesRequested q)
      run = .next { slotAfter s i { sl with ctr := { sl.ctr with
          standinsIssued := satAdd sl.ctr.standinsIssued cs.length } } s.attn 0 (cs.map .completion) with
        hostQueue := rest, withheld := none })

/-! ### Card traffic -/

/-- R28, R33: a card completion whose tag is that of no OPEN entry is late: in every slot state it changes nothing but
late_completions, a 32-bit count that saturates, that a power-on reset sets to 0 and that a hierarchy reset keeps. -/
def Obligations.LateCompletion : Prop :=
  ∀ (i : SlotId) (c : Completion) (s : State),
    let sl := s.slots[i]
    ((∀ k : Fin 32, (sl.trk.ort[k]).body ≠ none → c.tag ≠ downstreamTag (sl.trk.ort[k]).gen k) →
      exec (.cardCompletion i c) s = .next { s with slots := s.slots.set i { sl with ctr := { sl.ctr with
        lateCompletions :=
          if sl.ctr.lateCompletions = 4294967295 then sl.ctr.lateCompletions else sl.ctr.lateCompletions + 1 } } }) ∧
    (∃ t, exec .powerOnReset s = .next t ∧ (t.slots[i]).ctr.lateCompletions = 0) ∧
    (∀ c', c' = .upstreamHotReset ∨ c' = .upstreamLinkDown ∨ c' = .hierarchyReset false ∨ c' = .hierarchyReset true →
      ∃ t, exec c' s = .next t ∧ (t.slots[i]).ctr.lateCompletions = sl.ctr.lateCompletions)

/-- R19, R26, R29 to R31, R36, R57, R69 to R74: a card completion under the tag of an OPEN host entry, in ACTIVE while nothing
waits and in FENCING. A read's data go to the host under the host's own requester id and tag and are taken off the bytes
owed; the entry closes when nothing is owed or on an error status; a SUCCESS that delivers nothing is absorbed; each is
progress. In FENCING a freed entry is handed on to nothing, and the last to close ends the grace and completes the fence. -/
def Obligations.CardCompletionForwarded : Prop :=
  ∀ (i : SlotId) (k : Fin 32) (c : Completion) (s : State),
    let sl := s.slots[i]
    ∀ b, (sl.trk.ort[k]).body = some b → b.origin.isUpstream = true →
    let run := exec (.cardCompletion i { c with tag := downstreamTag (sl.trk.ort[k]).gen k }) s
    let n := bytesCarried c
    let isRead := match b.kind with
      | .memRead _ => true
      | .cfgRead _ _ => true
      | .cfgWrite _ _ _ _ => false
    let lower : BitVec 7 := match b.kind with
      | .memRead first => (first + BitVec.ofNat 64 (b.bytesRequested - b.bytesOwed)).setWidth 7
      | .cfgRead _ _ => 0
      | .cfgWrite _ _ _ _ => 0
    let count := match b.kind with
      | .memRead _ => b.bytesOwed
      | .cfgRead _ _ => 4
      | .cfgWrite _ _ _ _ => 4
    let keptEntry : OrtEntry := { gen := (sl.trk.ort[k]).gen, body := some { b with bytesOwed := b.bytesOwed - n } }
    let kept := { sl.trk with ort := sl.trk.ort.set k keptEntry }
    let freed := sl.trk.withFreed k
    let leaves := fun (t : State) (x : Slot) (attn : BitVec 24) (filed : Nat) =>
      t = { s with
        slots := s.slots.set i x, attn := attn, incidentSerial := s.incidentSerial + BitVec.ofNat 32 filed,
        freeIndex := t.freeIndex, wires := t.wires } ∧
      t.wires = { s.wires with upstream := t.wires.upstream }
    let addressed := fun (f : Completion) =>
      b.origin = .upstream f.requesterId f.tag ∧ f.status = c.status ∧ f.byteCount = count ∧ f.lowerAddress = lower
    let stays := fun (x : Slot) =>
      (c.status = .success → isRead = true → 0 < n → n < b.bytesOwed →
        ∃ t, run = .next t ∧ leaves t x s.attn 0 ∧
          SentCompletion s t fun f => addressed f ∧ Carries f.data (lower.toNat % 4) n (carriedStream c)) ∧
      (c.status = .success → n = 0 → 1 ≤ b.bytesOwed → ∃ t, run = .next t ∧ leaves t x s.attn 0 ∧ t.wires = s.wires)
    let closes := fun (x : Slot) (attn : BitVec 24) (filed : Nat) =>
      (c.status = .success → isRead = true → 0 < n → n = b.bytesOwed →
        ∃ t, run = .next t ∧ leaves t x attn filed ∧
          SentCompletion s t fun f => addressed f ∧ Carries f.data (lower.toNat % 4) n (carriedStream c)) ∧
      (c.status ≠ .success → c.data = [] →
        ∃ t, run = .next t ∧ leaves t x attn filed ∧ SentCompletion s t fun f => addressed f ∧ f.data = [])
    let watched := fun (trk : Tracker) => { sl with trk := { trk with watch := watchOnProgress s.now sl trk } }
    let quiet := fun (trk : Tracker) => { sl with trk := { trk with watch := .idle } }
    (sl.cu.st = .active → sl.trk.hold = [] → sl.trk.waiting = none → stays (watched kept) ∧ closes (watched freed) s.attn 0) ∧
    (sl.cu.st = .fencing →
      stays (quiet kept) ∧
      ((∃ j : Fin 32, j ≠ k ∧ (sl.trk.ort[j]).body ≠ none) → closes (quiet freed) s.attn 0) ∧
      ((∀ j : Fin 32, j ≠ k → (sl.trk.ort[j]).body = none) → sl.cu.grace ≠ none → sl.StaysFenced →
        closes ((quiet freed).fenceClosed s 1) (s.attn ||| fenceClosedMask i sl) 1))

/-- R34: a completion that carries more than a read of an ACTIVE slot owes closes the entry: the host gets the bytes owed in
one completion, overruns rises and OVERRUN_COMPLETION is filed. -/
def Obligations.OverrunCloses : Prop :=
  ∀ (i : SlotId) (k : Fin 32) (c : Completion) (s : State),
    let sl := s.slots[i]
    ∀ b, (sl.trk.ort[k]).body = some b → b.origin.isUpstream = true →
    sl.cu.st = .active → sl.trk.hold = [] → sl.trk.waiting = none →
    let freed := sl.trk.withFreed k
    let lower : BitVec 7 := match b.kind with
      | .memRead first => (first + BitVec.ofNat 64 (b.bytesRequested - b.bytesOwed)).setWidth 7
      | .cfgRead _ _ => 0
      | .cfgWrite _ _ _ _ => 0
    let count := match b.kind with
      | .memRead _ => b.bytesOwed
      | .cfgRead _ _ => 4
      | .cfgWrite _ _ _ _ => 4
    carriesData b.kind = true → c.status = .success → 1 ≤ b.bytesOwed → b.bytesOwed < bytesCarried c →
    ∃ t, exec (.cardCompletion i { c with tag := downstreamTag (sl.trk.ort[k]).gen k }) s = .next t ∧
      t = { s with
        slots := s.slots.set i { sl with
          trk := { freed with watch := watchOnProgress s.now sl freed },
          ctr := { sl.ctr with
            overruns := if sl.ctr.overruns = 0xFFFFFFFF then sl.ctr.overruns else sl.ctr.overruns + 1 },
          inc := sl.inc.file (incidentAt s 1 .overrunCompletion .active .none sl.port.epoch sl.attempt .none
            (some (BitVec.ofNat 32 k.val)) (some (BitVec.ofNat 32 b.bytesOwed)) (some (BitVec.ofNat 32 (bytesCarried c)))) },
        attn := s.attn ||| attentionMask i .incident, incidentSerial := s.incidentSerial + 1,
        freeIndex := t.freeIndex, wires := t.wires } ∧
      t.wires = { s.wires with upstream := t.wires.upstream } ∧
      SentCompletion s t fun f =>
        b.origin = .upstream f.requesterId f.tag ∧ f.status = .success ∧ f.byteCount = count ∧ f.lowerAddress = lower ∧
          Carries f.data (lower.toNat % 4) b.bytesOwed (carriedStream c)

/-- R30, R37, R69 to R74: when a host CFG_WRITE to the primary function closes with SUCCESS, in ACTIVE while nothing waits and
in FENCING, every CAPTURED record of its offset takes the enabled bytes of the data, and nothing else of the Context Store
changes. In FENCING the last entry to close completes the fence. -/
def Obligations.ShadowUpdate : Prop :=
  ∀ (i : SlotId) (k : Fin 32) (c : Completion) (s : State),
    let sl := s.slots[i]
    ∀ b, (sl.trk.ort[k]).body = some b → c.status = .success → c.data = [] → b.bytesOwed = 0 →
    let run := exec (.cardCompletion i { c with tag := downstreamTag (sl.trk.ort[k]).gen k }) s
    match b.origin, b.kind with
    | .upstream rid tag, .cfgWrite offset true data enables =>
      let updates := fun (x : Slot) (attn : BitVec 24) (filed : Nat) =>
        ∃ t, run = .next t ∧
          t = slotAfter s i { x with ctx := { header := sl.ctx.header, records := (t.slots[i]).ctx.records } } attn filed
            [.completion { requesterId := rid, tag := tag, status := .success, byteCount := 4, lowerAddress := 0, data := [] }] ∧
          ∀ m : Fin 64, ∃ v : Dword, (t.slots[i]).ctx.records[m] = { sl.ctx.records[m] with value := v } ∧
            if (sl.ctx.records[m]).state = 3 ∧ (sl.ctx.records[m]).offset = offset.setWidth 16 then
              ∀ j : Fin 4, v.extractLsb' (8 * j.val) 8 = if enables.getLsbD j.val = true
                then data.extractLsb' (8 * j.val) 8 else ((sl.ctx.records[m]).value).extractLsb' (8 * j.val) 8
            else v = (sl.ctx.records[m]).value
      let freed := sl.trk.withFreed k
      let quiet := { sl with trk := { freed with watch := .idle } }
      (sl.cu.st = .active → sl.trk.hold = [] → sl.trk.waiting = none →
        updates { sl with trk := { freed with watch := watchOnProgress s.now sl freed } } s.attn 0) ∧
      (sl.cu.st = .fencing →
        ((∃ j : Fin 32, j ≠ k ∧ (sl.trk.ort[j]).body ≠ none) → updates quiet s.attn 0) ∧
        ((∀ j : Fin 32, j ≠ k → (sl.trk.ort[j]).body = none) → sl.cu.grace ≠ none → sl.StaysFenced →
          updates (quiet.fenceClosed s 1) (s.attn ||| fenceClosedMask i sl) 1))
    | _, _ => True

/-- R32, R141 to R144: the SUCCESS of a capture's read with four bytes. The identity read renews the identity, a record read
fills its record if that is still for capture; the next record for capture is read, or the capture finishes with its
order. That the next read enables all four bytes is the model's choice (log 10). -/
def Obligations.CaptureReads : Prop :=
  ∀ (i : SlotId) (k j : Fin 32) (m m' : Fin 64) (c : Completion) (s : State),
    let sl := s.slots[i]
    ∀ b, (sl.trk.ort[k]).body = some b → ∀ cp, sl.capture = some cp → b.origin = .controller .capture →
    b.gathered = [] → b.bytesOwed = 4 → b.bytesRequested = 4 → c.status = .success → bytesCarried c = 4 → cp.stop = false →
    sl.cu.st = .active → sl.trk.hold = [] → sl.trk.waiting = none → sl.ou.cell.owner = .controller →
    let run := exec (.cardCompletion i { c with tag := downstreamTag (sl.trk.ort[k]).gen k }) s
    let v : Dword := ofLeBytes 32 4 ((carriedStream c).take 4)
    let freed := sl.trk.withFreed k
    let progressed := fun (t : Tracker) => { t with watch := watchOnProgress s.now sl t }
    let seen := { sl.ctx with header := { sl.ctx.header with identityValid := 1, identity := v } }
    let record := { sl.ctx.records[m] with value := v, state := 3, serial := sl.ctx.header.captureSerial + 1 }
    let filled := { sl.ctx with records := sl.ctx.records.set m record }
    let finished := fun (ctx : ContextStore) (read : Nat) (identity : IdentityResult) =>
      (Host.Outcome.next (slotAfter s i { sl with
        trk := progressed freed, capture := none,
        ctx := { ctx with header := { ctx.header with
          captureSerial := ctx.header.captureSerial + 1, lastCaptureTick := s.now } },
        ou := sl.ouEnding s.now 2 (if cp.recordsFailed = 0 ∧ identity = .read then .done else .partly)
          (if identity = .unread then .identityUnread else .none) (BitVec.ofNat 32 read)
          (BitVec.ofNat 32 cp.recordsFailed) (BitVec.ofNat 32 cp.firstFailed) }
        (s.attn ||| doneMask i sl 2) 0 []) : Host.Outcome State Fault Refusal)
    let reads := fun (ctx : ContextStore) (cp' : Capture) (n : Fin 64) =>
      let next := { sl with trk := freed, ctx := ctx }
      let opened := next.withOpened s.now j (readBody s sl .capture ((ctx.records[n]).offset.setWidth 10))
        (readSent s sl (downstreamTag (freed.ort[j]).gen j) ((ctx.records[n]).offset.setWidth 10))
      (Host.Outcome.next (slotAfter s i { opened with
        trk := progressed opened.trk,
        capture := some { cp' with step := .record n, offsetInHand := (ctx.records[n]).offset, cursor := n.val } }
        s.attn 0 []) : Host.Outcome State Fault Refusal)
    (cp.step = .identity → (∀ n : Fin 64, ¬ Reads sl.ctx.records[n]) → run = finished seen cp.recordsRead .read) ∧
    (cp.step = .identity → FirstRecord Reads sl.ctx 0 m → LowestFree { sl with trk := freed } j →
      run = reads seen { cp with identityResult := .read } m) ∧
    (cp.step = .record m → Reads sl.ctx.records[m] → (sl.ctx.records[m]).offset = cp.offsetInHand →
      (∀ n : Fin 64, m < n → ¬ Reads sl.ctx.records[n]) →
      run = finished filled (cp.recordsRead + 1) cp.identityResult) ∧
    (cp.step = .record m → Reads sl.ctx.records[m] → (sl.ctx.records[m]).offset = cp.offsetInHand →
      FirstRecord Reads sl.ctx (m.val + 1) m' → LowestFree { sl with trk := freed } j →
      run = reads filled { cp with recordsRead := cp.recordsRead + 1 } m')

/-- R15, R87 to R89: a card MEM_READ opens the lowest FREE Return Map entry of an ACTIVE slot and goes upstream under the
entry's tag, waits at the port where none is FREE, and is dropped and counted in any other state; and so does the read that
waits at the port when it is handed over. That a further read has no effect while one waits is the model's choice (log 9),
and so is that a hand-over with no read waiting, or with no entry FREE, leaves the state as it is (log 18, log 21). -/
def Obligations.CardReads : Prop :=
  ∀ (i : SlotId) (k : Fin 16) (r : MemRequest) (s : State),
    let sl := s.slots[i]
    let run := exec (.cardMemRead i r) s
    let hand := exec (.cardReadHandover i) s
    let full := ∀ j : Fin 16, (sl.rmap[j]).body ≠ none
    let took := { sl with port := { sl.port with waitingRead := none } }
    let entry := fun (r : MemRequest) => ({ gen := (sl.rmap[k]).gen, body := some {
      requesterId := r.requesterId, tag := r.tag, bytesRequested := memBytesRequested r, bytesOwed := memBytesRequested r,
      expiry := s.now + BitVec.ofNat 32 (s.device.returnLimitMs.toNat * 1000) } } : ReturnEntry)
    let opens := fun (r : MemRequest) =>
      (Host.Outcome.next (slotAfter s i { took with rmap := sl.rmap.set k (entry r) } s.attn 0
        [.memRead { r with requesterId := s.mgmt.requesterId, tag := upstreamTag i (sl.rmap[k]).gen k }]) :
        Host.Outcome State Fault Refusal)
    let dropped := (Host.Outcome.next { s with slots := s.slots.set i { took with ctr := { sl.ctr with
      cardTrafficDropped := if sl.ctr.cardTrafficDropped = 0xFFFFFFFF then sl.ctr.cardTrafficDropped
        else sl.ctr.cardTrafficDropped + 1 } } } : Host.Outcome State Fault Refusal)
    (sl.port.waitingRead = none →
      (sl.cu.st = .active → LowestFreeReturn sl k → run = opens r) ∧
      (sl.cu.st = .active → full →
        run = .next { s with slots := s.slots.set i { sl with port := { sl.port with waitingRead := some r } } }) ∧
      (sl.cu.st ≠ .active → run = dropped) ∧ hand = .next s) ∧
    (∀ w, sl.port.waitingRead = some w →
      (sl.cu.st = .active → LowestFreeReturn sl k → hand = opens w) ∧
      (sl.cu.st = .active → full → hand = .next s) ∧
      (sl.cu.st ≠ .active → hand = dropped) ∧ run = .next s)

/-- R6, R15, R67: a card MEM_WRITE or MESSAGE goes upstream unchanged in ACTIVE, a fatal message then filing FATAL_MESSAGE
(here with fence_on_fatal off); a configuration or unrecognised request is answered UNSUPPORTED toward the card if
non-posted; in any other state, and for a posted such request, the traffic is dropped and counted. That a non-posted such
request has no effect while a card read waits is the model's choice (log 9). -/
def Obligations.CardPostedTraffic : Prop :=
  ∀ (i : SlotId) (r : MemRequest) (data : List Dword) (m : CardMessage) (rid : BitVec 16) (tag : BitVec 10) (s : State),
    let sl := s.slots[i]
    let dropped := (Host.Outcome.next { s with slots := s.slots.set i { sl with ctr := { sl.ctr with
      cardTrafficDropped := if sl.ctr.cardTrafficDropped = 0xFFFFFFFF then sl.ctr.cardTrafficDropped
        else sl.ctr.cardTrafficDropped + 1 } } } : Host.Outcome State Fault Refusal)
    (sl.cu.st = .active →
      exec (.cardMemWrite i r data) s = .next (slotAfter s i sl s.attn 0 [.memWrite r data]) ∧
      (m.cls ≠ .errorFatal → exec (.cardMessage i m) s = .next (slotAfter s i sl s.attn 0 [.message m])) ∧
      (m.cls = .errorFatal → sl.inForce.fenceOnFatal = 0 →
        exec (.cardMessage i m) s = .next (slotAfter s i { sl with
          inc := sl.inc.file (incidentAt s 1 .fatalMessage .active .none sl.port.epoch sl.attempt .none
            (some (m.requesterId.setWidth 32)) (some 0) none) } (s.attn ||| attentionMask i .incident) 1 [.message m])) ∧
      (sl.port.waitingRead = none → exec (.cardConfigRequest i rid tag true) s =
        .next { s with slots := s.slots.set i { sl with port := { sl.port with outbound := sl.port.outbound ++
          [.answer { requesterId := rid, tag := tag, status := .unsupported, byteCount := 4, lowerAddress := 0,
                     data := [] }] } } }) ∧
      exec (.cardConfigRequest i rid tag false) s = dropped) ∧
    (sl.cu.st ≠ .active →
      exec (.cardMemWrite i r data) s = dropped ∧ exec (.cardMessage i m) s = dropped ∧
      exec (.cardConfigRequest i rid tag false) s = dropped ∧
      (sl.port.waitingRead = none → exec (.cardConfigRequest i rid tag true) s = dropped)) ∧
    (∀ w, sl.port.waitingRead = some w → exec (.cardConfigRequest i rid tag true) s = .next s)

/-! ### Fences -/

/-- R66 to R68, R71 to R73, R105: a link loss and a fatal message fence an idle ACTIVE slot at once: the cause's incident and
FENCE_COMPLETE are filed and the slot is FENCED, or, after a link loss with auto_recover on, RECOVERING. That the fence
begins within the event of the loss or of the message is the model's reading (log 22). A link that is not UP is not lost. -/
def Obligations.FencesAtOnce : Prop :=
  ∀ (i : SlotId) (m : CardMessage) (s : State),
    let sl := s.slots[i]
    let lost := { sl with
      port := { sl.port with link := .down, outbound := [] },
      ctr := { sl.ctr with
        postedDiscarded := satAdd sl.ctr.postedDiscarded (sl.port.outbound.countP CardPacket.isPosted) } }
    let complete := fun (cause : FenceCause) =>
      incidentAt s 2 .fenceComplete .fenced .none sl.port.epoch sl.attempt (.cause cause) (some 0) (some 0) (some 0)
    let linkDown := incidentAt s 1 .linkDown .active .none sl.port.epoch sl.attempt .none (some 0)
      (some (BitVec.ofNat 32 sl.returnOpenCount)) (some (s.now - sl.port.upTick))
    let fatal := incidentAt s 1 .fatalMessage .active .none sl.port.epoch sl.attempt .none
      (some (m.requesterId.setWidth 32)) (some 1) none
    let attn := s.attn ||| attentionMask i .incident ||| attentionMask i .stateChange
    let afterLoss := { lost.fencedAtOnce s.now .linkDown with
      inc := (sl.inc.file linkDown).file (complete .linkDown) }
    (sl.port.link ≠ .up → exec (.linkLoss i) s = .next s) ∧
    (Idle s i → sl.port.link = .up → sl.inForce.autoRecover = 0 →
      exec (.linkLoss i) s = .next (slotAfter s i afterLoss attn 2 [])) ∧
    (Idle s i → sl.port.link = .up → sl.inForce.autoRecover ≠ 0 → PlanRunsOn s →
      exec (.linkLoss i) s = .next { slotAfter s i { afterLoss with
          cu := { afterLoss.cu with st := .recovering }, attempt := 1 } attn 2 [] with
        queue := s.queue.set i (some {
          level := if sl.inForce.priority = 0 then .routine else .urgent, attempt := 1, earliest := s.now,
          eligible := true }) }) ∧
    (Idle s i → m.cls = .errorFatal → sl.inForce.fenceOnFatal ≠ 0 → sl.inForce.autoRecover = 0 →
      exec (.cardMessage i m) s = .next (slotAfter s i { sl.fencedAtOnce s.now .fatalMessage with
        inc := (sl.inc.file fatal).file (complete .fatalMessage) } attn 2 [.message m]))

/-- R39, R62, R64, R65, R68: the oldest reported trigger, taken in the period of ACTIVE in which it was reported, begins a
fence: the Hold Queue is answered by stand-ins and, with an entry OPEN, the grace runs. A trigger taken otherwise is
discarded. That the oldest trigger is taken first is the model's choice (log 15), and so is that the command has no effect
where none is reported (log 18). -/
def Obligations.FenceTriggerTaken : Prop :=
  ∀ (i : SlotId) (s : State),
    let sl := s.slots[i]
    let run := exec (.fenceTrigger i) s
    (sl.cu.triggers = [] → run = .next s) ∧
    (∀ tr, sl.cu.triggers.head? = some tr → sl.cu.st ≠ .active ∨ tr.period ≠ sl.cu.period →
      run = .next { s with slots := s.slots.set i { sl with cu := { sl.cu with triggers := sl.cu.triggers.tail } } }) ∧
    (∀ tr, sl.cu.triggers.head? = some tr → sl.cu.st = .active → tr.period = sl.cu.period →
      tr.cause ≠ .linkDown → sl.inForce.graceUs ≠ 0 → (∃ k : Fin 32, (sl.trk.ort[k]).body ≠ none) →
      sl.capture = none → sl.port.waitingRead = none → s.withheld ≠ some i →
      let cs := sl.trk.hold.flatMap fun h => h.body.standIns sl.inForce.standinMode
      run = .next (slotAfter s i { sl with
        cu := { sl.cu with
          st := .fencing, cause := tr.cause, triggers := sl.cu.triggers.tail,
          grace := some (s.now + BitVec.ofNat 32 sl.inForce.graceUs.toNat),
          tally := { start := s.now, completions := cs.length, requests := sl.trk.hold.length } },
        trk := { sl.trk with hold := [], watch := .idle },
        ctr := { sl.ctr with standinsIssued := satAdd sl.ctr.standinsIssued cs.length } }
        s.attn 0 (cs.map .completion)))

/-- R40, R70 to R73, R77, R113: when the grace expires every OPEN entry is settled in Age List order, UPSTREAM entries by
stand-ins; the slot is FENCED, FENCE_COMPLETE carries the tally and the time since the trigger, and a FENCE order in
progress ends DONE. In the same event the follow-up is taken: RETIRE retires the slot and ends its order, RECOVER and
auto_recover make it join the Recovery Queue. What a granted plan shows of its restore is the model's choice (log 35). -/
def Obligations.GraceEnds : Prop :=
  ∀ (i : SlotId) (s : State),
    let sl := s.slots[i]
    let run := exec (.graceExpiry i) s
    let cs := sl.owedStandIns
    let settled := sl.trk.age.countP fun k => (sl.trk.ort[k]).body.any (·.origin.isUpstream)
    let emptied := { sl with
      cu := { sl.cu with tally := {
        start := sl.cu.tally.start, completions := sl.cu.tally.completions + cs.length,
        requests := sl.cu.tally.requests + settled } },
      trk := { sl.trk with ort := sl.ortFreed, age := [] },
      ctr := { sl.ctr with standinsIssued := satAdd sl.ctr.standinsIssued cs.length } }
    let closed := emptied.fenceClosed s 1
    let attn := s.attn ||| fenceClosedMask i sl
    let sent := cs.map HostPacket.completion
    sl.trk.age.Nodup → (∀ k : Fin 32, k ∈ sl.trk.age ↔ (sl.trk.ort[k]).body ≠ none) →
    sl.cu.st = .fencing → sl.cu.grace.any (reached s.now) = true → sl.trk.watch = .idle →
    (sl.StaysFenced → run = .next (slotAfter s i closed attn 1 sent)) ∧
    (∀ o, sl.ou.order = some o → sl.cu.followUp = .retire → o.code = 6 → sl.trk.hold = [] →
      let a := closed.asserted
      let st : Dword := o.taken.code.setWidth 32
      run = .next (slotAfter s i { a with
        cu := { closed.cu with st := .retired },
        inc := closed.inc.file (incidentAt s 2 .retired .retired .none a.port.epoch sl.attempt (.cause .order) (some st)
          none none),
        ou := closed.ou.ended s.now o .done .none st 0 0 } (attn ||| attentionMask i .orderDone) 2 sent)) ∧
    (∀ level, sl.cu.followUp = .recover level → Joins s i closed level attn 1 sent run) ∧
    (sl.cu.followUp = .none → sl.inForce.autoRecover ≠ 0 → sl.cu.cause ≠ .order →
      Joins s i closed (if sl.inForce.priority = 0 then .routine else .urgent) attn 1 sent run)

/-! ### Expiries -/

/-- R26, R27, R48, R51 to R53, R69, R70: the deadline of an OPEN host entry: its bytes owed are answered by stand-ins, it is
freed, and REQUEST_TIMEOUT is filed. In ACTIVE the freed entry is handed on, to the waiting controller request before the
head of the Hold Queue, and timeout_action follows, whose count stays at 15 (log 26); in FENCING the tally counts the
request, and the last entry ends the grace and completes the fence. A controller read that is handed the entry goes out with
all four bytes enabled (log 10). An entry whose deadline is not reached does not expire (log 18). -/
def Obligations.DeadlineExpiry : Prop :=
  ∀ (i : SlotId) (k : Fin 32) (s : State),
    let sl := s.slots[i]
    let run := exec (.deadlineExpiry i k) s
    ((sl.trk.ort[k]).body = none → run = .next s) ∧
    ∀ b, (sl.trk.ort[k]).body = some b → b.origin.isUpstream = true →
      (reached s.now b.deadline = false → run = .next s) ∧
      (reached s.now b.deadline = true →
        let cs := b.standIns sl.inForce.standinMode
        let n := min 15 (sl.trk.answered + 1)
        let freed := sl.trk.withFreed k
        let tag := downstreamTag (freed.ort[k]).gen k
        let expired := fun (x : Slot) => { x with
          ctr := { sl.ctr with
            standinsIssued := satAdd sl.ctr.standinsIssued cs.length,
            timeouts := if sl.ctr.timeouts = 0xFFFFFFFF then sl.ctr.timeouts else sl.ctr.timeouts + 1 },
          inc := sl.inc.file (incidentAt s 1 .requestTimeout sl.cu.st .none sl.port.epoch sl.attempt .upstream
            (some (BitVec.ofNat 32 k.val)) (some (BitVec.ofNat 32 b.bytesOwed)) (some (b.deadline - b.arrival))) }
        let answered := fun (x : Slot) => { expired x with trk := { x.trk with answered := n } }
        let triggered := fun (x : Slot) => { x with cu := { x.cu with
          triggers := x.cu.triggers ++ [{ cause := .timeout, period := x.cu.period }] } }
        let after := fun (x : Slot) =>
          (Host.Outcome.next (slotAfter s i x (s.attn ||| attentionMask i .incident) 1 (cs.map .completion)) :
            Host.Outcome State Fault Refusal)
        let follows := fun (x : Slot) =>
          (sl.inForce.timeoutAction = 0 → run = after (triggered (expired x))) ∧
          (sl.inForce.timeoutAction ≠ 0 → n < sl.inForce.timeoutTolerance.toNat → run = after (answered x)) ∧
          (sl.inForce.timeoutAction ≠ 0 → sl.inForce.timeoutTolerance.toNat ≤ n → run = after (triggered (answered x)))
        (sl.cu.st = .active →
          (sl.trk.waiting = none → sl.trk.hold = [] → follows { sl with trk := freed }) ∧
          (∀ w, sl.trk.waiting = some w →
            follows ({ sl with trk := { freed with waiting := none } }.withOpened s.now k (controllerOpens s sl w)
              (controllerSends s sl tag w))) ∧
          (∀ h rest, sl.trk.waiting = none → sl.trk.hold = h :: rest → s.withheld ≠ some i →
            follows ({ sl with trk := { freed with hold := rest } }.withOpened s.now k h.body
              (retag s.mgmt.requesterId tag h.request)))) ∧
        (sl.cu.st = .fencing →
          let tallied := { expired { sl with trk := freed } with cu := { sl.cu with tally := { sl.cu.tally with
            completions := sl.cu.tally.completions + cs.length, requests := sl.cu.tally.requests + 1 } } }
          ((∃ j : Fin 32, j ≠ k ∧ (sl.trk.ort[j]).body ≠ none) → run = after tallied) ∧
          ((∀ j : Fin 32, j ≠ k → (sl.trk.ort[j]).body = none) → sl.cu.grace ≠ none → sl.StaysFenced →
            run = .next (slotAfter s i (tallied.fenceClosed s 2)
              (s.attn ||| attentionMask i .incident ||| fenceClosedMask i sl) 2 (cs.map .completion)))))

/-- R49, R51, R52: the deadline of a held item: it is removed from its place, answered by stand-ins for its full bytes and
reported with index 32; timeout_action FENCE then reports a trigger. -/
def Obligations.HeldItemExpiry : Prop :=
  ∀ (i : SlotId) (position : Nat) (s : State),
    let sl := s.slots[i]
    let run := exec (.heldItemExpiry i position) s
    (sl.trk.hold[position]? = none → run = .next s) ∧
    ∀ h, sl.trk.hold[position]? = some h →
      (reached s.now h.body.deadline = false → run = .next s) ∧
      (reached s.now h.body.deadline = true → sl.cu.st = .active → s.withheld ≠ some i → sl.inForce.timeoutAction = 0 →
        let cs := h.body.standIns sl.inForce.standinMode
        run = .next (slotAfter s i { sl with
          trk := { sl.trk with hold := sl.trk.hold.eraseIdx position },
          cu := { sl.cu with triggers := sl.cu.triggers ++ [{ cause := .timeout, period := sl.cu.period }] },
          ctr := { sl.ctr with
            standinsIssued := satAdd sl.ctr.standinsIssued cs.length,
            timeouts := if sl.ctr.timeouts = 0xFFFFFFFF then sl.ctr.timeouts else sl.ctr.timeouts + 1 },
          inc := sl.inc.file (incidentAt s 1 .requestTimeout .active .none sl.port.epoch sl.attempt .held (some 32)
            (some (BitVec.ofNat 32 h.body.bytesOwed)) (some (h.body.deadline - h.body.arrival))) }
          (s.attn ||| attentionMask i .incident) 1 (cs.map .completion)))

/-- R44, R50 to R52, R128, R129, R141 to R146: the deadline of an entry of the controller's own: the entry is freed without a
completion and REQUEST_TIMEOUT is filed. The identity read of a plan then fails its attempt, ATTEMPT_FAILED being filed
second (log 14). The read of a capture gives the identity result UNREAD, or marks its record CAPTURE_FAILED, and the capture
issues its next read, with all four bytes enabled (log 10), finishes or stops; timeout_action follows, whose count stays at 15
(log 26). An entry whose deadline is not reached does not expire (log 18). -/
def Obligations.ControllerEntryExpiry : Prop :=
  ∀ (i : SlotId) (k j : Fin 32) (m m' : Fin 64) (s : State),
    let sl := s.slots[i]
    let run := exec (.controllerEntryExpiry i k) s
    ∀ b, (sl.trk.ort[k]).body = some b →
    let freed := sl.trk.withFreed k
    let timedOut := fun (x : Slot) (phase : Phase) => { x with
      ctr := { sl.ctr with
        timeouts := if sl.ctr.timeouts = 0xFFFFFFFF then sl.ctr.timeouts else sl.ctr.timeouts + 1 },
      inc := sl.inc.file (incidentAt s 1 .requestTimeout sl.cu.st phase sl.port.epoch sl.attempt .controller
        (some (BitVec.ofNat 32 k.val)) (some (BitVec.ofNat 32 b.bytesOwed)) (some (b.deadline - b.arrival))) }
    (b.origin = .controller .plan ∨ b.origin = .controller .capture → reached s.now b.deadline = false → run = .next s) ∧
    (∀ p, s.plan = some p → b.origin = .controller .plan → reached s.now b.deadline = true → p.slot = i →
      p.phase = .settling → p.stop = false → sl.cu.st = .recovering → s.queue[i] = none →
      AttemptEnds s p (timedOut { sl with trk := freed } .settling) 2 .requestTimeout none run) ∧
    (∀ cp, sl.capture = some cp → b.origin = .controller .capture → reached s.now b.deadline = true → sl.cu.st = .active →
      sl.trk.hold = [] → sl.trk.waiting = none →
      let n := min 15 (sl.trk.answered + 1)
      let triggered := fun (x : Slot) => { x with cu := { x.cu with
        triggers := x.cu.triggers ++ [{ cause := .timeout, period := x.cu.period }] } }
      let answered := fun (x : Slot) => { x with trk := { x.trk with answered := n } }
      let follows := fun (x : Slot) =>
        if sl.inForce.timeoutAction = 0 then triggered x
        else if sl.inForce.timeoutTolerance.toNat ≤ n then triggered (answered x) else answered x
      let expired := timedOut { sl with trk := freed } .none
      let record := { sl.ctx.records[m] with state := 4 }
      let marked := { sl.ctx with records := sl.ctx.records.set m record }
      let unread := { cp with identityResult := .unread, cursor := 0 }
      let failed := { cp with
        recordsRead := cp.recordsRead + 1, recordsFailed := cp.recordsFailed + 1,
        firstFailed := if cp.firstFailed = 64 then m.val else cp.firstFailed }
      let ends := fun (ctx : ContextStore) (cp' : Capture) (outcome : OrderOutcome) (reason : Reason) =>
        (Host.Outcome.next (slotAfter s i (follows { expired with
          ctx := ctx, capture := none,
          ou := sl.ouEnding s.now 2 outcome reason (BitVec.ofNat 32 cp'.recordsRead) (BitVec.ofNat 32 cp'.recordsFailed)
            (BitVec.ofNat 32 cp'.firstFailed) }) (s.attn ||| attentionMask i .incident ||| doneMask i sl 2) 1 []) :
          Host.Outcome State Fault Refusal)
      let finished := fun (ctx : ContextStore) (cp' : Capture) =>
        ends { ctx with header := { ctx.header with
            captureSerial := ctx.header.captureSerial + 1, lastCaptureTick := s.now } } cp' .partly
          (if cp'.identityResult = .unread then .identityUnread else .none)
      let reads := fun (ctx : ContextStore) (cp' : Capture) (r : Fin 64) =>
        let offset := (ctx.records[r]).offset
        (Host.Outcome.next (slotAfter s i (follows { expired.withOpened s.now j (readBody s sl .capture (offset.setWidth 10))
            (readSent s sl (downstreamTag (freed.ort[j]).gen j) (offset.setWidth 10)) with
          ctx := ctx, capture := some { cp' with step := .record r, offsetInHand := offset, cursor := r.val } })
          (s.attn ||| attentionMask i .incident) 1 []) : Host.Outcome State Fault Refusal)
      (cp.step = .identity → cp.stop = true → run = ends sl.ctx unread .cancelled .none) ∧
      (cp.step = .identity → cp.stop = false → (∀ r : Fin 64, ¬ Reads sl.ctx.records[r]) → run = finished sl.ctx unread) ∧
      (cp.step = .identity → cp.stop = false → FirstRecord Reads sl.ctx 0 m' → LowestFree expired j →
        run = reads sl.ctx unread m') ∧
      (cp.step = .record m → Reads sl.ctx.records[m] → (sl.ctx.records[m]).offset = cp.offsetInHand →
        (cp.stop = true → run = ends marked failed .cancelled .none) ∧
        (cp.stop = false → (∀ r : Fin 64, m < r → ¬ Reads sl.ctx.records[r]) → run = finished marked failed) ∧
        (cp.stop = false → FirstRecord Reads sl.ctx (m.val + 1) m' → LowestFree expired j → run = reads marked failed m')))

/-- R59, R95: the expiry of an ARMED Progress Watch files STALL and reports a trigger; the lifetime expiry of a Return Map
entry frees it and files RETURN_EXPIRED. A tick that is not set or not reached gives no expiry (log 18). -/
def Obligations.WatchAndReturnExpiry : Prop :=
  ∀ (i : SlotId) (k : Fin 16) (oldest : Fin 32) (s : State),
    let sl := s.slots[i]
    let watch := exec (.progressWatchExpiry i) s
    let ret := exec (.returnLifetimeExpiry i k) s
    let phase := s.phaseOf i
    (sl.trk.watch = .idle ∨ sl.trk.watch = .expired → watch = .next s) ∧
    (∀ d, sl.trk.watch = .armed d →
      (reached s.now d = false → watch = .next s) ∧
      (reached s.now d = true → sl.cu.st = .active → sl.trk.age.head? = some oldest →
        ∀ b, (sl.trk.ort[oldest]).body = some b →
        watch = .next (slotAfter s i { sl with
          trk := { sl.trk with watch := .expired },
          cu := { sl.cu with triggers := sl.cu.triggers ++ [{ cause := .stall, period := sl.cu.period }] },
          inc := sl.inc.file (incidentAt s 1 .stall .active .none sl.port.epoch sl.attempt .none
            (some (BitVec.ofNat 32 sl.trk.openCount)) (some (BitVec.ofNat 32 oldest.val))
            (some (BitVec.ofNat 32 b.bytesOwed))) } (s.attn ||| attentionMask i .incident) 1 []))) ∧
    ((sl.rmap[k]).body = none → ret = .next s) ∧
    (∀ b, (sl.rmap[k]).body = some b →
      (reached s.now b.expiry = false → ret = .next s) ∧
      (reached s.now b.expiry = true → sl.port.waitingRead = none →
        ret = .next (slotAfter s i { sl with
          rmap := sl.rmap.set k { gen := (sl.rmap[k]).gen + 1, body := none },
          inc := sl.inc.file (incidentAt s 1 .returnExpired sl.cu.st phase sl.port.epoch sl.attempt
            (if b.bytesOwed = b.bytesRequested then .unanswered else .partly) (some (BitVec.ofNat 32 k.val))
            (some (BitVec.ofNat 32 b.bytesOwed)) (some (b.tag.setWidth 32))) }
          (s.attn ||| attentionMask i .incident) 1 [])))

/-! ### The Recovery Sequencer -/

/-- R107, R119, R132: at the hold tick the reset line is released, the link trains and the plan enters TRAINING; a stop
request is acted on in its place. A tick that is not set or not reached gives no expiry (log 18). -/
def Obligations.HoldTickExpiry : Prop :=
  ∀ s : State,
    (s.plan = none → exec .holdTickExpiry s = .next s) ∧
    ∀ p, s.plan = some p →
      let i := p.slot
      let sl := s.slots[i]
      (p.holdTick.any (reached s.now) = false → exec .holdTickExpiry s = .next s) ∧
      (p.holdTick.any (reached s.now) = true → p.stop = false → sl.port.line = .asserted →
        exec .holdTickExpiry s = .next { s with
          slots := s.slots.set i { sl with port := { sl.port with line := .released, link := .training } },
          plan := some { p with
            phase := .training, holdTick := none,
            trainLimit := some (s.now + BitVec.ofNat 32 (sl.inForce.trainLimitMs.toNat * 1000)) } }) ∧
      (p.holdTick.any (reached s.now) = true → p.stop = true → NoPlanRequest sl → NoneEligible s →
        exec .holdTickExpiry s = .next { slotAfter s i { sl with
            cu := { sl.cu with st := if sl.port.line = .asserted then .offline else .fenced }, attempt := 0,
            ou := sl.ouEnding s.now 4 .cancelled .none (BitVec.ofNat 32 p.attempt) 0 0 }
            (s.attn ||| attentionMask i .stateChange ||| doneMask i sl 4) 0 [] with plan := none })

/-- R119, R121, R125, R128 to R130: the train limit, the settle limit and a record's retry limit fail the attempt: with an
attempt left the slot is queued again with its backoff; with none it is RETIRED with its line asserted and its RECOVER order
ends FAILED. -/
def Obligations.AttemptFails : Prop :=
  ∀ s : State, ∀ p, s.plan = some p →
    let sl := s.slots[p.slot]
    let fails := fun (c : Instr) (reason : Reason) => AttemptEnds s p sl 1 reason none (exec c s)
    p.stop = false → sl.cu.st = .recovering →
    (p.trainLimit.any (reached s.now) = true → fails .trainLimitExpiry .trainTimeout) ∧
    (p.settleLimit.any (reached s.now) = true → fails .settleLimitExpiry .settleTimeout) ∧
    (p.retryLimit.any (reached s.now) = true → fails .retryLimitExpiry .settleTimeout)

/-- R24, R32, R120 to R126, R128 to R130: at the retry tick the plan issues its request again as a new request, its reads with
all four bytes enabled (log 10); a tick not reached has no effect (log 18). A card completion that closes the plan's request
gives the plan its result. In SETTLING an identity that agrees, or that is not compared, begins the restore, one that differs
retires the slot, and any other status sets the retry tick. In RESTORING a write or a verify that succeeds moves the plan to
the verify, the delay, the next record or its success, a verify that differs or a status UNSUPPORTED or ABORT fails the
attempt, and NOT_READY sets the retry tick and the record's retry limit, which is cleared no sooner than the record is done
(log 23). -/
def Obligations.RetryTickExpiry : Prop :=
  ∀ (k j : Fin 32) (m : Fin 64) (c : Completion) (s : State), ∀ p, s.plan = some p →
    let i := p.slot
    let sl := s.slots[i]
    let issues := fun (x : Slot) (b : OrtBody) (q : BitVec 10 → NonPosted) (p' : Plan) =>
      (Host.Outcome.next { slotAfter s i (x.withOpened s.now k b (q (downstreamTag (x.trk.ort[k]).gen k))) s.attn 0 [] with
        plan := some p' } : Host.Outcome State Fault Refusal)
    let retry := exec .retryTickExpiry s
    let retried := { p with retryTick := none }
    (p.retryTick.any (reached s.now) = false → retry = .next s) ∧
    (p.retryTick.any (reached s.now) = true → p.stop = false → LowestFree sl k →
      (p.phase = .settling → retry = issues sl (readBody s sl .plan 0) (readSent s sl · 0) retried) ∧
      (p.phase = .restoring → p.step = .write → retry = issues sl (writeBody s sl p.hand) (writeSent s sl · p.hand) retried) ∧
      (p.phase = .restoring → p.step = .verify →
        retry = issues sl (readBody s sl .plan p.hand.offset) (readSent s sl · p.hand.offset) retried)) ∧
    ∀ b, (sl.trk.ort[j]).body = some b → b.origin = .controller .plan → p.stop = false → sl.cu.st = .recovering →
      let run := exec (.cardCompletion i { c with tag := downstreamTag (sl.trk.ort[j]).gen j }) s
      let x := { sl with trk := sl.trk.withFreed j }
      let v : Dword := ofLeBytes 32 4 ((carriedStream c).take 4)
      let gotValue := c.status = .success ∧ bytesCarried c = 4 ∧ b.bytesOwed = 4 ∧ b.gathered = []
      let gotWrite := c.status = .success ∧ c.data = [] ∧ b.bytesOwed = 0
      let retryTick := some (s.now + BitVec.ofNat 32 sl.inForce.settleRetryUs.toNat)
      let keeps := fun (p' : Plan) =>
        (Host.Outcome.next { s with slots := s.slots.set i x, plan := some p' } : Host.Outcome State Fault Refusal)
      let goesOn := fun (p' : Plan) =>
        (p.hand.delay = 0 → MovesOn s p' x (p.cursor + 1) k m run) ∧
        (p.hand.delay ≠ 0 → run = keeps { p' with
          step := .none, retryLimit := none, delayTick := some (s.now + BitVec.ofNat 32 (p.hand.delay * 100)) })
      let wrote := { p with written := p.written + 1 }
      (p.phase = .settling → gotValue → sl.ctx.header.identityValid = 0 ∨ v = sl.ctx.header.identity →
        MovesOn s { p with phase := .restoring, settleLimit := none } x 0 k m run) ∧
      (p.phase = .settling → gotValue → sl.ctx.header.identityValid ≠ 0 → v ≠ sl.ctx.header.identity →
        s.queue[i] = none → NoneEligible s → NoPlanRequest x →
        run = .next (retiredAfter s p x 1 .identityMismatch (some v) .identityMismatch v)) ∧
      (p.phase = .settling → c.status ≠ .success → c.data = [] → run = keeps { p with retryTick := retryTick }) ∧
      (p.phase = .restoring → p.step = .write → gotWrite →
        (p.hand.verify = true → LowestFree x k →
          run = issues x (readBody s x .plan p.hand.offset) (readSent s x · p.hand.offset) { wrote with step := .verify }) ∧
        (p.hand.verify = false → goesOn wrote)) ∧
      (p.phase = .restoring → p.step = .verify → gotValue →
        ((v ^^^ p.hand.value) &&& p.hand.verifyMask = 0 → goesOn p) ∧
        ((v ^^^ p.hand.value) &&& p.hand.verifyMask ≠ 0 → AttemptEnds s p x 1 .verifyMismatch (some v) run)) ∧
      (p.phase = .restoring → c.status = .notReady → c.data = [] →
        run = keeps { p with
          retryTick := retryTick
          retryLimit := some (p.retryLimit.getD
            (s.now + BitVec.ofNat 32 (sl.inForce.settleLimitMs.toNat * 1000))) }) ∧
      (p.phase = .restoring → c.status = .unsupported ∨ c.status = .abort → c.data = [] →
        AttemptEnds s p x 1 .restoreRejected (some ((statusCode c.status).setWidth 32)) run)

/-- R122, R123, R125, R126: at the delay tick, which is set in RESTORING only, the cursor moves on: the next record that is to
be written is copied into hand and written, and with none left the plan succeeds: the slot is ACTIVE, RECOVERED is filed, its
RECOVER order ends DONE and the sequencer is idle. A tick not reached has no effect (log 18). -/
def Obligations.DelayTickExpiry : Prop :=
  ∀ (k : Fin 32) (m : Fin 64) (s : State), ∀ p, s.plan = some p →
    let run := exec .delayTickExpiry s
    (p.delayTick.any (reached s.now) = false → run = .next s) ∧
    (p.delayTick.any (reached s.now) = true → p.stop = false → p.phase = .restoring →
      MovesOn s { p with delayTick := none } s.slots[p.slot] (p.cursor + 1) k m run)

/-- R115, R118: an idle sequencer grants the eligible entry of the highest level and, within it, of the lowest slot: the
entry leaves the queue, the reset line is asserted and the hold runs. There is no grant while a plan runs or no entry is
eligible: the command then leaves the state as it is (log 18, log 21). What the plan shows of its restore is the model's
choice (log 35). -/
def Obligations.PlanGrant : Prop :=
  ∀ (i : SlotId) (s : State),
    let sl := s.slots[i]
    let eligible := fun (e : QueueEntry) => e.eligible = true ∨ reached s.now e.earliest = true
    (s.plan ≠ none → exec .planGrant s = .next s) ∧
    (s.plan = none → NoneEligible s → exec .planGrant s = .next s) ∧
    ∀ e, s.queue[i] = some e → s.plan = none → eligible e →
      (∀ k : SlotId, ∀ f, s.queue[k] = some f → eligible f →
        (f.level = e.level → i ≤ k) ∧ (f.level = .urgent → e.level = .urgent)) →
      exec .planGrant s = .next { slotAfter s i sl.asserted (s.attn ||| attentionMask i .stateChange) 0 [] with
        queue := s.queue.set i none,
        plan := some (planGranted s.now i e.level e.attempt
          (min (sl.inForce.holdMs.toNat * 2 ^ (e.attempt - 1)) 1000)) }

/-- R115, R116: when an earliest start tick is reached the entry becomes eligible. A plan that cannot be set aside runs on; an
idle sequencer grants the entry; an URGENT entry sets aside a ROUTINE plan in RESET_HOLD or TRAINING, which goes back to the
queue with its line asserted, and is granted. A tick that is not reached, or that has been taken, has no effect (log 18).
What a granted plan shows of its restore is the model's choice (log 35). -/
def Obligations.EarliestStartReached : Prop :=
  ∀ (i : SlotId) (s : State),
    let sl := s.slots[i]
    let run := exec (.earliestStartReached i) s
    (s.queue[i] = none → run = .next s) ∧
    ∀ e, s.queue[i] = some e →
      (e.eligible = true ∨ reached s.now e.earliest = false → run = .next s) ∧
      (e.eligible = false → reached s.now e.earliest = true → PlanRunsOn s ∨ (e.level = .routine ∧ OthersWait s i ∧ s.plan ≠ none) →
        run = .next { s with queue := s.queue.set i (some { e with eligible := true }) }) ∧
      (e.eligible = false → reached s.now e.earliest = true → s.plan = none → OthersWait s i →
        run = .next { slotAfter s i sl.asserted (s.attn ||| attentionMask i .stateChange) 0 [] with
          queue := s.queue.set i none,
          plan := some (planGranted s.now i e.level e.attempt
            (min (sl.inForce.holdMs.toNat * 2 ^ (e.attempt - 1)) 1000)) }) ∧
      ∀ p, s.plan = some p → e.eligible = false → reached s.now e.earliest = true → e.level = .urgent → OthersWait s i →
        p.level = .routine → p.phase = .resetHold ∨ p.phase = .training → p.stop = false → p.slot ≠ i →
        run = .next (setAsideFor s p i sl e.attempt (s.attn ||| attentionMask i .stateChange) 0 [])

/-! ### Slot Ports -/

/-- R99, R100: a presence sample: a reading of the accepted level sets the run count to 0, a differing one raises it, and the
eighth is accepted; the arrival of a card makes the slot OFFLINE, files CARD_PRESENT and raises STATE_CHANGE. That the
sample is taken whatever the sample timer shows, starts it anew at 1,000 and stands on the presence line after it is the
model's choice (log 7). -/
def Obligations.PresenceSamples : Prop :=
  ∀ (i : SlotId) (reading : Presence) (s : State),
    let sl := s.slots[i]
    let run := exec (.presenceSample i reading) s
    let read := fun (t : State) => { t with wires := { t.wires with presence := s.wires.presence.set i reading } }
    let counted := fun (n : Nat) => { sl.port with runCount := n, sampleTimer := 1000 }
    (sl.port.accepted = reading →
      run = .next (read { s with slots := s.slots.set i { sl with port := counted 0 } })) ∧
    (sl.port.accepted ≠ reading → sl.port.runCount < 7 →
      run = .next (read { s with slots := s.slots.set i { sl with port := counted (sl.port.runCount + 1) } })) ∧
    (sl.port.accepted = .absent → reading = .present → sl.port.runCount = 7 →
      run = .next (read (slotAfter s i { sl with
        port := { counted 0 with accepted := .present }, cu := { sl.cu with st := .offline },
        inc := sl.inc.file (incidentAt s 1 .cardPresent .offline .none sl.port.epoch sl.attempt .none none none none) }
        (s.attn ||| attentionMask i .incident ||| attentionMask i .stateChange) 1 [])))

/-- R25, R75, R101, R102, R132, R133: the removal of a card: everything owed to the host is answered by stand-ins, the Hold
Queue first, the slot is EMPTY at attempt 0 with its reset line asserted, an order in progress ends FAILED, CARD_REMOVED is
filed with the stand-ins and the phase, and STATE_CHANGE raised. A RECOVERING slot leaves the Recovery Queue, or the current
plan is abandoned with its request, a stop request ending its RECOVER order CANCELLED first. The sample is taken whatever the
sample timer shows, starts it anew and stands on the presence line after it (log 7). -/
def Obligations.CardRemoval : Prop :=
  ∀ (i : SlotId) (s : State),
    let sl := s.slots[i]
    let run := exec (.presenceSample i .absent) s
    let sampled := { sl with port := { sl.port with accepted := .absent, runCount := 0, sampleTimer := 1000 } }
    let a := sampled.asserted
    let st : Dword := sl.cu.st.code.setWidth 32
    let removed := fun (trk : Tracker) (cs : List Completion) (phase : Phase) (cancelled : Bool) (attempt : Nat) =>
      let t := slotAfter s i { a with
        cu := { sl.cu with st := .empty, grace := none, followUp := .none }, attempt := 0, trk := trk,
        ctr := { a.ctr with standinsIssued := satAdd a.ctr.standinsIssued cs.length },
        inc := sl.inc.file (incidentAt s 1 .cardRemoved .empty .none a.port.epoch 0 (.slotState sl.cu.st)
          (some (BitVec.ofNat 32 cs.length)) (some (BitVec.ofNat 32 sl.returnOpenCount)) (some (phase.code.setWidth 32))),
        ou := match sl.ou.order with
          | some o =>
            if cancelled = true ∧ o.code = 4 then sl.ou.ended s.now o .cancelled .none (BitVec.ofNat 32 attempt) 0 0
            else sl.ou.ended s.now o .failed .cardRemoved st 0 0
          | none => sl.ou }
        (s.attn ||| (if sl.ou.order.isSome = true then attentionMask i .orderDone else 0) ||| attentionMask i .incident |||
          attentionMask i .stateChange) 1 (cs.map .completion)
      { t with wires := { t.wires with presence := s.wires.presence.set i .absent } }
    sl.port.accepted = .present → sl.port.runCount = 7 →
    (sl.cu.st ≠ .recovering → sl.capture = none → sl.port.waitingRead = none → s.withheld ≠ some i → sl.trk.age.Nodup →
      (∀ k : Fin 32, k ∈ sl.trk.age ↔ (sl.trk.ort[k]).body ≠ none) →
      run = .next (removed { sl.trk with
        ort := sl.ortFreed, age := [], hold := [], waiting := none,
        watch := if sl.cu.st = .active ∨ sl.trk.age ≠ [] then .idle else sl.trk.watch }
        (sl.heldStandIns ++ sl.owedStandIns) .none false 0)) ∧
    (∀ e, s.queue[i] = some e → sl.cu.st = .recovering → sl.Quiet → (∀ p, s.plan = some p → p.slot ≠ i) →
      s.plan ≠ none ∨ OthersWait s i →
      run = .next { removed sl.trk [] .queued false 0 with queue := s.queue.set i none }) ∧
    (∀ p, s.plan = some p → sl.cu.st = .recovering → p.slot = i → s.queue[i] = none → NoneEligible s →
      ∀ trk, PlanRequestEnded sl trk →
        run = .next { removed trk [] p.phase.shown p.stop p.attempt with plan := none })

/-- R17, R104, R119, R120: the link becomes UP only from TRAINING, at its up tick; the current plan in TRAINING then enters
SETTLING and issues the identity read, with all four bytes enabled (log 10). While the link is UP packets leave the outbound
buffer onto the link in their order (how many is the model's operand, log 19); while it is not, the drain has no effect
(log 18). -/
def Obligations.LinkEvents : Prop :=
  ∀ (i : SlotId) (k : Fin 32) (count : Nat) (s : State),
    let sl := s.slots[i]
    let up := { sl with port := { sl.port with link := .up, upTick := s.now } }
    (sl.port.link ≠ .training → exec (.linkUp i) s = .next s) ∧
    (sl.port.link = .training → (∀ p, s.plan = some p → p.slot ≠ i ∨ p.phase ≠ .training) →
      exec (.linkUp i) s = .next { s with slots := s.slots.set i up }) ∧
    (∀ p, s.plan = some p → sl.port.link = .training → p.slot = i → p.phase = .training → p.stop = false →
      LowestFree sl k →
      exec (.linkUp i) s = .next { slotAfter s i (up.withOpened s.now k (readBody s sl .plan 0)
          (readSent s sl (downstreamTag (sl.trk.ort[k]).gen k) 0)) s.attn 0 [] with
        plan := some { p with
          phase := .settling, trainLimit := none,
          settleLimit := some (s.now + BitVec.ofNat 32 (sl.inForce.settleLimitMs.toNat * 1000)) } }) ∧
    (sl.port.link ≠ .up → exec (.outboundBufferDrain i count) s = .next s) ∧
    (sl.port.link = .up → exec (.outboundBufferDrain i count) s =
      .next { s with
        slots := s.slots.set i { sl with port := { sl.port with outbound := sl.port.outbound.drop count } },
        wires := { s.wires with
          downstream := s.wires.downstream.set i (s.wires.downstream[i] ++ sl.port.outbound.take count) } })

/-! ### Stand-ins and deadlines -/

/-- R79 to R83: the content of the stand-ins for one request. ONES for a read cover the bytes owed with 0xFF, each completion
ending at the next multiple of 256 or at the last byte; REFUSE answers a read of which nothing has been delivered with one
UNSUPPORTED; a configuration read gets one dword of ones and a configuration write one completion without data. -/
def Obligations.StandInContents : Prop :=
  ∀ (mode : Byte) (rid : BitVec 16) (tag : BitVec 10) (first : BitVec 64) (requested owed : Nat) (offset : BitVec 10)
    (primary : Bool) (data : Dword) (enables : BitVec 4),
    let start := (first + BitVec.ofNat 64 (requested - owed)).toNat
    let cs := standIns mode rid tag (.memRead first) requested owed
    let sent := fun (j : Nat) => ((cs.take j).map bytesCarried).sum
    (1 ≤ owed → owed ≤ requested → (mode = 0 ∨ owed < requested) →
      cs.length = (start % 256 + owed + 255) / 256 ∧ (cs.map bytesCarried).sum = owed ∧
      ∀ j : Nat, ∀ f, cs[j]? = some f →
        f.requesterId = rid ∧ f.tag = tag ∧ f.status = .success ∧ f.byteCount = owed - sent j ∧
        f.lowerAddress.toNat = (start + sent j) % 128 ∧
        bytesCarried f = min (owed - sent j) (256 - (start + sent j) % 256) ∧
        f.data = List.replicate ((f.lowerAddress.toNat % 4 + bytesCarried f + 3) / 4) 0xFFFFFFFF) ∧
    (mode ≠ 0 → owed = requested → cs =
      [{ requesterId := rid, tag := tag, status := .unsupported, byteCount := requested,
         lowerAddress := first.setWidth 7, data := [] }]) ∧
    (standIns mode rid tag (.cfgRead offset primary) requested owed =
      [{ requesterId := rid, tag := tag, status := .success, byteCount := owed,
         lowerAddress := BitVec.ofNat 7 (4 - owed), data := [0xFFFFFFFF] }]) ∧
    (standIns mode rid tag (.cfgWrite offset primary data enables) requested owed =
      [{ requesterId := rid, tag := tag, status := .success, byteCount := 4, lowerAddress := 0, data := [] }])

/-- R46: the Tracker's one deadline computation goes through the five stages for either class and every length, its window
between 16 microseconds and the ceiling in force; and so do the deadline of a host request of any kind that opens an entry and
that of the identity read of a capture. -/
def Obligations.DeadlinesComputed : Prop :=
  ∀ (i : SlotId) (k : Fin 32) (q : NonPosted) (number : BitVec 16) (priority : Byte) (s : State),
    let sl := s.slots[i]
    let f := sl.inForce
    SettingsInv s →
    (∀ (isCfg : Bool) (l : Nat), 1 ≤ l → l ≤ 1024 →
      DeadlineStages (if isCfg = true then f.windowConfigUs.toNat else f.windowReadUs.toNat) l f.paceNs.toNat
        f.stretch.toNat s.device.ceilingUs.toNat s.now (s.deadlineFor i isCfg l)) ∧
    (sl.cu.st = .active → LowestFree sl k → s.hostQueue = [] → s.target (.known q) = .slot i → sl.trk.hold = [] → 1 ≤ lengthOf q → lengthOf q ≤ 1024 →
      ∃ t, exec (hostCommand q) s = .next t ∧ ∃ b, ((t.slots[i]).trk.ort[k]).body = some b ∧ b.arrival = s.now ∧
        DeadlineStages (if isConfig q = true then f.windowConfigUs.toNat else f.windowReadUs.toNat) (lengthOf q)
          f.paceNs.toNat f.stretch.toNat s.device.ceilingUs.toNat b.arrival b.deadline) ∧
    (sl.cu.st = .active → LowestFree sl k → sl.ou.cell.owner = .software →
      ∃ t, exec (.orderCapture i number priority) s = .next t ∧ ∃ b, ((t.slots[i]).trk.ort[k]).body = some b ∧
        b.arrival = s.now ∧
        DeadlineStages f.windowConfigUs.toNat 1 f.paceNs.toNat f.stretch.toNat s.device.ceilingUs.toNat
          b.arrival b.deadline)

/-! ### What every step keeps -/

/-- R7, R45, R160, R161: every step keeps the settings in force within their ranges and the routing of different slots
disjoint. -/
def Obligations.SettingsKept : Prop := ∀ s t : State, SettingsInv s → step s = .next t → SettingsInv t

/-- R18, R20, R22, R86: every step keeps the Age List the list of the OPEN entries, the Hold Queue at 8 items at most, and the
bytes owed within the bytes requested. -/
def Obligations.TablesKept : Prop := ∀ s t : State, TableInv s → step s = .next t → TableInv t

/-- R99, R107, R111 to R113, R119, R125: every step keeps the slot states, the reset lines, the links, the attempt numbers, the
Recovery Queue, the current plan and its timers in agreement. -/
def Obligations.SequencerKept : Prop :=
  ∀ s t : State, SettingsInv s → SequencerInv s → step s = .next t → SequencerInv t

/-- The three conditions hold after reset. -/
def Obligations.ResetKeepsTo : Prop :=
  SettingsInv State.reset ∧ TableInv State.reset ∧ SequencerInv State.reset
end

