-- ==== Sys2Proof/Laws/State.lean ====
section
/-! SUPPORT. The small lemmas of the state's updates: one per field for each basic update, the reading of a slot after an
update of a slot, and the rewriting of every narrower update to `State.onSlot`. -/

namespace Sys2Proof.Machine

open Sys2Proof

variable (s : State)

/-! ### `State.onSlot` -/

@[simp] theorem State.onSlot_now (i : SlotId) (f : Slot → Slot) : (s.onSlot i f).now = s.now := rfl
@[simp] theorem State.onSlot_attn (i : SlotId) (f : Slot → Slot) : (s.onSlot i f).attn = s.attn := rfl
@[simp] theorem State.onSlot_attnEnable (i : SlotId) (f : Slot → Slot) : (s.onSlot i f).attnEnable = s.attnEnable := rfl
@[simp] theorem State.onSlot_deviceCells (i : SlotId) (f : Slot → Slot) : (s.onSlot i f).deviceCells = s.deviceCells := rfl
@[simp] theorem State.onSlot_device (i : SlotId) (f : Slot → Slot) : (s.onSlot i f).device = s.device := rfl
@[simp] theorem State.onSlot_unrouted (i : SlotId) (f : Slot → Slot) : (s.onSlot i f).unrouted = s.unrouted := rfl
@[simp] theorem State.onSlot_incidentSerial (i : SlotId) (f : Slot → Slot) : (s.onSlot i f).incidentSerial = s.incidentSerial := rfl
@[simp] theorem State.onSlot_mgmt (i : SlotId) (f : Slot → Slot) : (s.onSlot i f).mgmt = s.mgmt := rfl
@[simp] theorem State.onSlot_hostQueue (i : SlotId) (f : Slot → Slot) : (s.onSlot i f).hostQueue = s.hostQueue := rfl
@[simp] theorem State.onSlot_withheld (i : SlotId) (f : Slot → Slot) : (s.onSlot i f).withheld = s.withheld := rfl
@[simp] theorem State.onSlot_plan (i : SlotId) (f : Slot → Slot) : (s.onSlot i f).plan = s.plan := rfl
@[simp] theorem State.onSlot_queue (i : SlotId) (f : Slot → Slot) : (s.onSlot i f).queue = s.queue := rfl
@[simp] theorem State.onSlot_wires (i : SlotId) (f : Slot → Slot) : (s.onSlot i f).wires = s.wires := rfl
@[simp] theorem State.onSlot_freeIndex (i : SlotId) (f : Slot → Slot) : (s.onSlot i f).freeIndex = s.freeIndex := rfl
@[simp] theorem State.onSlot_pending (i : SlotId) (f : Slot → Slot) : (s.onSlot i f).pending = s.pending := rfl

/-! ### `State.setQueue` -/

@[simp] theorem State.setQueue_now (i : SlotId) (e : Option QueueEntry) : (s.setQueue i e).now = s.now := rfl
@[simp] theorem State.setQueue_attn (i : SlotId) (e : Option QueueEntry) : (s.setQueue i e).attn = s.attn := rfl
@[simp] theorem State.setQueue_attnEnable (i : SlotId) (e : Option QueueEntry) : (s.setQueue i e).attnEnable = s.attnEnable := rfl
@[simp] theorem State.setQueue_deviceCells (i : SlotId) (e : Option QueueEntry) : (s.setQueue i e).deviceCells = s.deviceCells := rfl
@[simp] theorem State.setQueue_device (i : SlotId) (e : Option QueueEntry) : (s.setQueue i e).device = s.device := rfl
@[simp] theorem State.setQueue_unrouted (i : SlotId) (e : Option QueueEntry) : (s.setQueue i e).unrouted = s.unrouted := rfl
@[simp] theorem State.setQueue_incidentSerial (i : SlotId) (e : Option QueueEntry) : (s.setQueue i e).incidentSerial = s.incidentSerial := rfl
@[simp] theorem State.setQueue_mgmt (i : SlotId) (e : Option QueueEntry) : (s.setQueue i e).mgmt = s.mgmt := rfl
@[simp] theorem State.setQueue_hostQueue (i : SlotId) (e : Option QueueEntry) : (s.setQueue i e).hostQueue = s.hostQueue := rfl
@[simp] theorem State.setQueue_withheld (i : SlotId) (e : Option QueueEntry) : (s.setQueue i e).withheld = s.withheld := rfl
@[simp] theorem State.setQueue_plan (i : SlotId) (e : Option QueueEntry) : (s.setQueue i e).plan = s.plan := rfl
@[simp] theorem State.setQueue_slots (i : SlotId) (e : Option QueueEntry) : (s.setQueue i e).slots = s.slots := rfl
@[simp] theorem State.setQueue_wires (i : SlotId) (e : Option QueueEntry) : (s.setQueue i e).wires = s.wires := rfl
@[simp] theorem State.setQueue_freeIndex (i : SlotId) (e : Option QueueEntry) : (s.setQueue i e).freeIndex = s.freeIndex := rfl
@[simp] theorem State.setQueue_pending (i : SlotId) (e : Option QueueEntry) : (s.setQueue i e).pending = s.pending := rfl

/-! ### `State.setPlan` -/

@[simp] theorem State.setPlan_now (p : Option Plan) : (s.setPlan p).now = s.now := rfl
@[simp] theorem State.setPlan_attn (p : Option Plan) : (s.setPlan p).attn = s.attn := rfl
@[simp] theorem State.setPlan_attnEnable (p : Option Plan) : (s.setPlan p).attnEnable = s.attnEnable := rfl
@[simp] theorem State.setPlan_deviceCells (p : Option Plan) : (s.setPlan p).deviceCells = s.deviceCells := rfl
@[simp] theorem State.setPlan_device (p : Option Plan) : (s.setPlan p).device = s.device := rfl
@[simp] theorem State.setPlan_unrouted (p : Option Plan) : (s.setPlan p).unrouted = s.unrouted := rfl
@[simp] theorem State.setPlan_incidentSerial (p : Option Plan) : (s.setPlan p).incidentSerial = s.incidentSerial := rfl
@[simp] theorem State.setPlan_mgmt (p : Option Plan) : (s.setPlan p).mgmt = s.mgmt := rfl
@[simp] theorem State.setPlan_hostQueue (p : Option Plan) : (s.setPlan p).hostQueue = s.hostQueue := rfl
@[simp] theorem State.setPlan_withheld (p : Option Plan) : (s.setPlan p).withheld = s.withheld := rfl
@[simp] theorem State.setPlan_queue (p : Option Plan) : (s.setPlan p).queue = s.queue := rfl
@[simp] theorem State.setPlan_slots (p : Option Plan) : (s.setPlan p).slots = s.slots := rfl
@[simp] theorem State.setPlan_wires (p : Option Plan) : (s.setPlan p).wires = s.wires := rfl
@[simp] theorem State.setPlan_freeIndex (p : Option Plan) : (s.setPlan p).freeIndex = s.freeIndex := rfl
@[simp] theorem State.setPlan_pending (p : Option Plan) : (s.setPlan p).pending = s.pending := rfl

/-! ### `State.raise` -/

@[simp] theorem State.raise_now (i : SlotId) (a : Attention) : (s.raise i a).now = s.now := rfl
@[simp] theorem State.raise_attnEnable (i : SlotId) (a : Attention) : (s.raise i a).attnEnable = s.attnEnable := rfl
@[simp] theorem State.raise_deviceCells (i : SlotId) (a : Attention) : (s.raise i a).deviceCells = s.deviceCells := rfl
@[simp] theorem State.raise_device (i : SlotId) (a : Attention) : (s.raise i a).device = s.device := rfl
@[simp] theorem State.raise_unrouted (i : SlotId) (a : Attention) : (s.raise i a).unrouted = s.unrouted := rfl
@[simp] theorem State.raise_incidentSerial (i : SlotId) (a : Attention) : (s.raise i a).incidentSerial = s.incidentSerial := rfl
@[simp] theorem State.raise_mgmt (i : SlotId) (a : Attention) : (s.raise i a).mgmt = s.mgmt := rfl
@[simp] theorem State.raise_hostQueue (i : SlotId) (a : Attention) : (s.raise i a).hostQueue = s.hostQueue := rfl
@[simp] theorem State.raise_withheld (i : SlotId) (a : Attention) : (s.raise i a).withheld = s.withheld := rfl
@[simp] theorem State.raise_plan (i : SlotId) (a : Attention) : (s.raise i a).plan = s.plan := rfl
@[simp] theorem State.raise_queue (i : SlotId) (a : Attention) : (s.raise i a).queue = s.queue := rfl
@[simp] theorem State.raise_slots (i : SlotId) (a : Attention) : (s.raise i a).slots = s.slots := rfl
@[simp] theorem State.raise_wires (i : SlotId) (a : Attention) : (s.raise i a).wires = s.wires := rfl
@[simp] theorem State.raise_freeIndex (i : SlotId) (a : Attention) : (s.raise i a).freeIndex = s.freeIndex := rfl
@[simp] theorem State.raise_pending (i : SlotId) (a : Attention) : (s.raise i a).pending = s.pending := rfl

/-! ### `State.clearAttention` -/

@[simp] theorem State.clearAttention_now (i : SlotId) (a : Attention) : (s.clearAttention i a).now = s.now := rfl
@[simp] theorem State.clearAttention_attnEnable (i : SlotId) (a : Attention) : (s.clearAttention i a).attnEnable = s.attnEnable := rfl
@[simp] theorem State.clearAttention_deviceCells (i : SlotId) (a : Attention) : (s.clearAttention i a).deviceCells = s.deviceCells := rfl
@[simp] theorem State.clearAttention_device (i : SlotId) (a : Attention) : (s.clearAttention i a).device = s.device := rfl
@[simp] theorem State.clearAttention_unrouted (i : SlotId) (a : Attention) : (s.clearAttention i a).unrouted = s.unrouted := rfl
@[simp] theorem State.clearAttention_incidentSerial (i : SlotId) (a : Attention) : (s.clearAttention i a).incidentSerial = s.incidentSerial := rfl
@[simp] theorem State.clearAttention_mgmt (i : SlotId) (a : Attention) : (s.clearAttention i a).mgmt = s.mgmt := rfl
@[simp] theorem State.clearAttention_hostQueue (i : SlotId) (a : Attention) : (s.clearAttention i a).hostQueue = s.hostQueue := rfl
@[simp] theorem State.clearAttention_withheld (i : SlotId) (a : Attention) : (s.clearAttention i a).withheld = s.withheld := rfl
@[simp] theorem State.clearAttention_plan (i : SlotId) (a : Attention) : (s.clearAttention i a).plan = s.plan := rfl
@[simp] theorem State.clearAttention_queue (i : SlotId) (a : Attention) : (s.clearAttention i a).queue = s.queue := rfl
@[simp] theorem State.clearAttention_slots (i : SlotId) (a : Attention) : (s.clearAttention i a).slots = s.slots := rfl
@[simp] theorem State.clearAttention_wires (i : SlotId) (a : Attention) : (s.clearAttention i a).wires = s.wires := rfl
@[simp] theorem State.clearAttention_freeIndex (i : SlotId) (a : Attention) : (s.clearAttention i a).freeIndex = s.freeIndex := rfl
@[simp] theorem State.clearAttention_pending (i : SlotId) (a : Attention) : (s.clearAttention i a).pending = s.pending := rfl

/-! ### `State.emit` -/

@[simp] theorem State.emit_now (p : HostPacket) : (s.emit p).now = s.now := rfl
@[simp] theorem State.emit_attn (p : HostPacket) : (s.emit p).attn = s.attn := rfl
@[simp] theorem State.emit_attnEnable (p : HostPacket) : (s.emit p).attnEnable = s.attnEnable := rfl
@[simp] theorem State.emit_deviceCells (p : HostPacket) : (s.emit p).deviceCells = s.deviceCells := rfl
@[simp] theorem State.emit_device (p : HostPacket) : (s.emit p).device = s.device := rfl
@[simp] theorem State.emit_unrouted (p : HostPacket) : (s.emit p).unrouted = s.unrouted := rfl
@[simp] theorem State.emit_incidentSerial (p : HostPacket) : (s.emit p).incidentSerial = s.incidentSerial := rfl
@[simp] theorem State.emit_mgmt (p : HostPacket) : (s.emit p).mgmt = s.mgmt := rfl
@[simp] theorem State.emit_hostQueue (p : HostPacket) : (s.emit p).hostQueue = s.hostQueue := rfl
@[simp] theorem State.emit_withheld (p : HostPacket) : (s.emit p).withheld = s.withheld := rfl
@[simp] theorem State.emit_plan (p : HostPacket) : (s.emit p).plan = s.plan := rfl
@[simp] theorem State.emit_queue (p : HostPacket) : (s.emit p).queue = s.queue := rfl
@[simp] theorem State.emit_slots (p : HostPacket) : (s.emit p).slots = s.slots := rfl
@[simp] theorem State.emit_freeIndex (p : HostPacket) : (s.emit p).freeIndex = s.freeIndex := rfl
@[simp] theorem State.emit_pending (p : HostPacket) : (s.emit p).pending = s.pending := rfl

/-! ### `State.emitCompletions` -/

@[simp] theorem State.emitCompletions_now (cs : List Completion) : (s.emitCompletions cs).now = s.now := rfl
@[simp] theorem State.emitCompletions_attn (cs : List Completion) : (s.emitCompletions cs).attn = s.attn := rfl
@[simp] theorem State.emitCompletions_attnEnable (cs : List Completion) : (s.emitCompletions cs).attnEnable = s.attnEnable := rfl
@[simp] theorem State.emitCompletions_deviceCells (cs : List Completion) : (s.emitCompletions cs).deviceCells = s.deviceCells := rfl
@[simp] theorem State.emitCompletions_device (cs : List Completion) : (s.emitCompletions cs).device = s.device := rfl
@[simp] theorem State.emitCompletions_unrouted (cs : List Completion) : (s.emitCompletions cs).unrouted = s.unrouted := rfl
@[simp] theorem State.emitCompletions_incidentSerial (cs : List Completion) : (s.emitCompletions cs).incidentSerial = s.incidentSerial := rfl
@[simp] theorem State.emitCompletions_mgmt (cs : List Completion) : (s.emitCompletions cs).mgmt = s.mgmt := rfl
@[simp] theorem State.emitCompletions_hostQueue (cs : List Completion) : (s.emitCompletions cs).hostQueue = s.hostQueue := rfl
@[simp] theorem State.emitCompletions_withheld (cs : List Completion) : (s.emitCompletions cs).withheld = s.withheld := rfl
@[simp] theorem State.emitCompletions_plan (cs : List Completion) : (s.emitCompletions cs).plan = s.plan := rfl
@[simp] theorem State.emitCompletions_queue (cs : List Completion) : (s.emitCompletions cs).queue = s.queue := rfl
@[simp] theorem State.emitCompletions_slots (cs : List Completion) : (s.emitCompletions cs).slots = s.slots := rfl
@[simp] theorem State.emitCompletions_freeIndex (cs : List Completion) : (s.emitCompletions cs).freeIndex = s.freeIndex := rfl
@[simp] theorem State.emitCompletions_pending (cs : List Completion) : (s.emitCompletions cs).pending = s.pending := rfl

/-! ### `State.countUnrouted` -/

@[simp] theorem State.countUnrouted_now : (s.countUnrouted).now = s.now := rfl
@[simp] theorem State.countUnrouted_attn : (s.countUnrouted).attn = s.attn := rfl
@[simp] theorem State.countUnrouted_attnEnable : (s.countUnrouted).attnEnable = s.attnEnable := rfl
@[simp] theorem State.countUnrouted_deviceCells : (s.countUnrouted).deviceCells = s.deviceCells := rfl
@[simp] theorem State.countUnrouted_device : (s.countUnrouted).device = s.device := rfl
@[simp] theorem State.countUnrouted_incidentSerial : (s.countUnrouted).incidentSerial = s.incidentSerial := rfl
@[simp] theorem State.countUnrouted_mgmt : (s.countUnrouted).mgmt = s.mgmt := rfl
@[simp] theorem State.countUnrouted_hostQueue : (s.countUnrouted).hostQueue = s.hostQueue := rfl
@[simp] theorem State.countUnrouted_withheld : (s.countUnrouted).withheld = s.withheld := rfl
@[simp] theorem State.countUnrouted_plan : (s.countUnrouted).plan = s.plan := rfl
@[simp] theorem State.countUnrouted_queue : (s.countUnrouted).queue = s.queue := rfl
@[simp] theorem State.countUnrouted_slots : (s.countUnrouted).slots = s.slots := rfl
@[simp] theorem State.countUnrouted_wires : (s.countUnrouted).wires = s.wires := rfl
@[simp] theorem State.countUnrouted_freeIndex : (s.countUnrouted).freeIndex = s.freeIndex := rfl
@[simp] theorem State.countUnrouted_pending : (s.countUnrouted).pending = s.pending := rfl

/-! ### What the updates change -/

@[simp] theorem State.setQueue_queue_same (i : SlotId) (e : Option QueueEntry) :
    (s.setQueue i e).queue[i.val] = e := by
  simp [State.setQueue]

theorem State.setQueue_queue_get (i j : SlotId) (e : Option QueueEntry) :
    (s.setQueue i e).queue[j] = if j = i then e else s.queue[j] := by
  simp only [State.setQueue, Fin.getElem_fin, Vector.getElem_set, Fin.ext_iff, eq_comm]

theorem State.setQueue_queue_of_ne (i j : SlotId) (e : Option QueueEntry) (h : j ≠ i) :
    (s.setQueue i e).queue[j] = s.queue[j] := by
  rw [State.setQueue_queue_get, if_neg h]

@[simp] theorem State.setPlan_plan (p : Option Plan) : (s.setPlan p).plan = p := rfl

@[simp] theorem State.raise_attn (i : SlotId) (a : Attention) : (s.raise i a).attn = s.attn ||| attentionMask i a := rfl

@[simp] theorem State.clearAttention_attn (i : SlotId) (a : Attention) :
    (s.clearAttention i a).attn = s.attn &&& ~~~ attentionMask i a := rfl

@[simp] theorem State.emit_upstream (p : HostPacket) : (s.emit p).wires.upstream = s.wires.upstream ++ [p] := rfl

@[simp] theorem State.emitCompletions_upstream (cs : List Completion) :
    (s.emitCompletions cs).wires.upstream = s.wires.upstream ++ cs.map .completion := rfl

@[simp] theorem State.countUnrouted_unrouted : s.countUnrouted.unrouted = satInc s.unrouted := rfl

/-! ### Slots -/

/-- The slot that an update changes, in the form that `simp` gives the index. -/
@[simp] theorem State.onSlot_slots_same (i : SlotId) (f : Slot → Slot) :
    (s.onSlot i f).slots[i.val] = f s.slots[i.val] := by
  simp [State.onSlot]

theorem State.onSlot_slots_get (i j : SlotId) (f : Slot → Slot) :
    (s.onSlot i f).slots[j] = if j = i then f s.slots[j] else s.slots[j] := by
  simp only [State.onSlot, Fin.getElem_fin, Vector.getElem_set, Fin.ext_iff]
  split
  · next h => simp [h]
  · next h => simp [Ne.symm h]

theorem State.onSlot_slots_of_ne (i j : SlotId) (f : Slot → Slot) (h : j ≠ i) : (s.onSlot i f).slots[j] = s.slots[j] := by
  rw [State.onSlot_slots_get, if_neg h]

/-- A slot that an update leaves equal, whichever slot it is: the form in which an unchanged field is carried through. -/
theorem State.onSlot_slots_field {α : Type} (p : Slot → α) (i j : SlotId) (f : Slot → Slot)
    (h : p (f s.slots[i]) = p s.slots[i]) : p ((s.onSlot i f).slots[j]) = p s.slots[j] := by
  rw [State.onSlot_slots_get]
  split
  · next e => subst e; exact h
  · rfl

@[simp] theorem State.onSlot_onSlot (i : SlotId) (f g : Slot → Slot) :
    (s.onSlot i f).onSlot i g = s.onSlot i fun sl => g (f sl) := by
  simp [State.onSlot]

@[simp] theorem State.raise_slots_get (i j : SlotId) (a : Attention) : (s.raise i a).slots[j] = s.slots[j] := rfl

/-! ### Narrower updates are updates of a slot -/

theorem State.onCu_eq (i : SlotId) (f : Containment → Containment) :
    s.onCu i f = s.onSlot i fun sl => { sl with cu := f sl.cu } := rfl

theorem State.onTracker_eq (i : SlotId) (f : Tracker → Tracker) :
    s.onTracker i f = s.onSlot i fun sl => { sl with trk := f sl.trk } := rfl

theorem State.onPort_eq (i : SlotId) (f : SlotPort → SlotPort) :
    s.onPort i f = s.onSlot i fun sl => { sl with port := f sl.port } := rfl

theorem State.onOrderUnit_eq (i : SlotId) (f : OrderUnit → OrderUnit) :
    s.onOrderUnit i f = s.onSlot i fun sl => { sl with ou := f sl.ou } := rfl

theorem State.onCounters_eq (i : SlotId) (f : Counters → Counters) :
    s.onCounters i f = s.onSlot i fun sl => { sl with ctr := f sl.ctr } := rfl

theorem State.setSlotState_eq (i : SlotId) (st : SlotState) :
    s.setSlotState i st = s.onSlot i fun sl => { sl with cu.st := st } := rfl

theorem State.setAttempt_eq (i : SlotId) (k : Nat) : s.setAttempt i k = s.onSlot i fun sl => { sl with attempt := k } := rfl

theorem State.setCapture_eq (i : SlotId) (c : Option Capture) :
    s.setCapture i c = s.onSlot i fun sl => { sl with capture := c } := rfl

theorem State.pushOutbound_eq (i : SlotId) (p : CardPacket) :
    s.pushOutbound i p = s.onSlot i fun sl => { sl with port.outbound := sl.port.outbound ++ [p] } := rfl

theorem State.reportTrigger_eq (i : SlotId) (cause : FenceCause) :
    s.reportTrigger i cause =
      s.onSlot i fun sl => { sl with cu.triggers := sl.cu.triggers ++ [{ cause := cause, period := sl.cu.period }] } := rfl

theorem State.countStandins_eq (i : SlotId) (n : Nat) :
    s.countStandins i n = s.onSlot i fun sl => { sl with ctr.standinsIssued := satAdd sl.ctr.standinsIssued n } := rfl

theorem State.countPostedDiscarded_eq (i : SlotId) (n : Nat) :
    s.countPostedDiscarded i n = s.onSlot i fun sl => { sl with ctr.postedDiscarded := satAdd sl.ctr.postedDiscarded n } :=
  rfl

/-- The filing of an incident as one update of the slot, of the serial and of ATTN. -/
theorem State.fileIncident_eq (i : SlotId) (kind : IncidentKind) (reason : Reason) (a b c : Option Dword) :
    s.fileIncident i kind reason a b c =
      (({ s with incidentSerial := s.incidentSerial + 1 }).onSlot i fun sl =>
        { sl with inc := sl.inc.file (s.incidentRecord i kind reason a b c) }).raise i .incident := rfl

/-- The end of an order in progress as one update of the Order Unit and of ATTN. -/
theorem State.endOrder_of_some (i : SlotId) (o : OrderInProgress) (outcome : OrderOutcome) (reason : Reason)
    (d1 d2 d3 : Dword) (h : (s.slots[i]).ou.order = some o) :
    s.endOrder i outcome reason d1 d2 d3 =
      (s.onSlot i fun sl => { sl with ou := sl.ou.finish s.now outcome reason d1 d2 d3 }).raise i .orderDone := by
  unfold State.endOrder
  rw [if_pos (by rw [h]; rfl)]
  rfl

theorem State.endOrder_of_none (i : SlotId) (outcome : OrderOutcome) (reason : Reason)
    (d1 d2 d3 : Dword) (h : (s.slots[i]).ou.order = none) : s.endOrder i outcome reason d1 d2 d3 = s := by
  unfold State.endOrder
  rw [if_neg (by rw [h]; decide)]

end Sys2Proof.Machine
end

