-- ==== Sys2Proof/Laws/Events.lean ====
section
/-! SUPPORT. What an event does as a whole: its outcome, the interrupt message it sends, and the fields of the state that
`slotAfter` names. -/

namespace Sys2Proof.Machine

open Sys2Proof

/-- The interrupt message of an event, in the terms of claims (R169). -/
theorem settleInterrupt_eq (s u : State) : settleInterrupt s u = withInterrupt s u := by
  unfold settleInterrupt withInterrupt interruptSent State.pendingSet
  split <;> simp [State.emit, *]

/-- Every command is an event: it answers the state its effect leaves, with the interrupt message sent last. -/
theorem event_eq (f : State → State) (s : State) : event f s = .next (withInterrupt s (f s)) := by
  unfold event; rw [settleInterrupt_eq]

/-- The outcome of an event whose effect is known. -/
theorem event_next {f : State → State} {s t : State} (h : f s = t) : event f s = .next (withInterrupt s t) := by
  rw [event_eq, h]

/-- An event that leaves ATTN and ATTN_ENABLE as they were sends no interrupt message. -/
theorem interruptSent_of_kept {s t : State} (ha : t.attn = s.attn) (he : t.attnEnable = s.attnEnable) :
    interruptSent s t = [] := by
  unfold interruptSent
  rw [ha, he]
  exact if_neg fun h => h.2.1 h.1

theorem withInterrupt_of_kept {s t : State} (ha : t.attn = s.attn) (he : t.attnEnable = s.attnEnable) :
    withInterrupt s t = t := by
  unfold withInterrupt
  rw [interruptSent_of_kept ha he]
  simp

/-- The outcome of an event that leaves ATTN and ATTN_ENABLE as they were. -/
theorem event_next_of_kept {f : State → State} {s t : State} (h : f s = t) (ha : t.attn = s.attn)
    (he : t.attnEnable = s.attnEnable) : event f s = .next t := by
  rw [event_next h, withInterrupt_of_kept ha he]

@[simp] theorem withInterrupt_now (s t : State) : (withInterrupt s t).now = t.now := rfl
@[simp] theorem withInterrupt_attn (s t : State) : (withInterrupt s t).attn = t.attn := rfl
@[simp] theorem withInterrupt_attnEnable (s t : State) : (withInterrupt s t).attnEnable = t.attnEnable := rfl
@[simp] theorem withInterrupt_deviceCells (s t : State) : (withInterrupt s t).deviceCells = t.deviceCells := rfl
@[simp] theorem withInterrupt_device (s t : State) : (withInterrupt s t).device = t.device := rfl
@[simp] theorem withInterrupt_unrouted (s t : State) : (withInterrupt s t).unrouted = t.unrouted := rfl
@[simp] theorem withInterrupt_incidentSerial (s t : State) : (withInterrupt s t).incidentSerial = t.incidentSerial := rfl
@[simp] theorem withInterrupt_mgmt (s t : State) : (withInterrupt s t).mgmt = t.mgmt := rfl
@[simp] theorem withInterrupt_hostQueue (s t : State) : (withInterrupt s t).hostQueue = t.hostQueue := rfl
@[simp] theorem withInterrupt_withheld (s t : State) : (withInterrupt s t).withheld = t.withheld := rfl
@[simp] theorem withInterrupt_plan (s t : State) : (withInterrupt s t).plan = t.plan := rfl
@[simp] theorem withInterrupt_queue (s t : State) : (withInterrupt s t).queue = t.queue := rfl
@[simp] theorem withInterrupt_slots (s t : State) : (withInterrupt s t).slots = t.slots := rfl
@[simp] theorem withInterrupt_freeIndex (s t : State) : (withInterrupt s t).freeIndex = t.freeIndex := rfl
@[simp] theorem withInterrupt_pending (s t : State) : (withInterrupt s t).pending = t.pending := rfl
@[simp] theorem withInterrupt_upstream (s t : State) :
    (withInterrupt s t).wires.upstream = t.wires.upstream ++ interruptSent s t := rfl
@[simp] theorem withInterrupt_presence (s t : State) : (withInterrupt s t).wires.presence = t.wires.presence := rfl
@[simp] theorem withInterrupt_downstream (s t : State) : (withInterrupt s t).wires.downstream = t.wires.downstream := rfl

/-- A raise of a bit that the same event cleared stands (R167). -/
theorem or_of_cleared {w : Nat} (a m : BitVec w) : (a &&& ~~~ m) ||| m = a ||| m := by
  ext i hi
  simp only [BitVec.getElem_or, BitVec.getElem_and, BitVec.getElem_not]
  cases a[i] <;> cases m[i] <;> rfl

/-- The clearing of a bit, a raise of others, and a raise of the bit. -/
theorem or_or_of_cleared {w : Nat} (a m n : BitVec w) : (a &&& ~~~ m) ||| n ||| m = a ||| m ||| n := by
  ext i hi
  simp only [BitVec.getElem_or, BitVec.getElem_and, BitVec.getElem_not]
  cases a[i] <;> cases m[i] <;> cases n[i] <;> rfl

end Sys2Proof.Machine
end

