-- ==== Sys2Proof/Laws/Tables.lean ====
section
/-! SUPPORT. The tables: the search for a FREE entry, the count of OPEN entries, and the opening and the freeing of an entry
in the terms of claims. -/

namespace Sys2Proof.Machine

open Sys2Proof

/-- What the search over `List.finRange` finds: the lowest index at which the test holds. -/
theorem find_finRange_eq_some {n : Nat} (p : Fin n → Bool) (k : Fin n) :
    (List.finRange n).find? p = some k ↔ p k = true ∧ ∀ j, j < k → p j = false := by
  rw [List.find?_eq_some_iff_getElem]
  constructor
  · rintro ⟨hk, i, hi, rfl, hlt⟩
    refine ⟨hk, fun j hj => ?_⟩
    have hj' : j.val < i := by simpa [Fin.lt_def] using hj
    simpa using hlt j.val hj'
  · rintro ⟨hk, hlt⟩
    refine ⟨hk, k.val, by simp, by simp, fun j hj => ?_⟩
    simpa using hlt ⟨j, by omega⟩ (by simpa [Fin.lt_def] using hj)

theorem find_finRange_eq_none {n : Nat} (p : Fin n → Bool) :
    (List.finRange n).find? p = none ↔ ∀ k, p k = false := by
  simp [List.find?_eq_none]

theorem lowestFree_eq_some (sl : Slot) (k : Fin 32) : sl.trk.lowestFree = some k ↔ LowestFree sl k := by
  unfold Tracker.lowestFree LowestFree
  rw [find_finRange_eq_some]
  simp [Option.isNone_eq_false_iff, Option.isSome_iff_ne_none]

theorem lowestFree_eq_none (t : Tracker) : t.lowestFree = none ↔ ∀ k : Fin 32, (t.ort[k]).body ≠ none := by
  unfold Tracker.lowestFree
  rw [find_finRange_eq_none]
  simp [Option.isNone_eq_false_iff, Option.isSome_iff_ne_none]

theorem lowestFreeReturn_eq_some (sl : Slot) (k : Fin 16) : sl.lowestFreeReturn = some k ↔ LowestFreeReturn sl k := by
  unfold Slot.lowestFreeReturn LowestFreeReturn
  rw [find_finRange_eq_some]
  simp [Option.isNone_eq_false_iff, Option.isSome_iff_ne_none]

theorem lowestFreeReturn_eq_none (sl : Slot) : sl.lowestFreeReturn = none ↔ ∀ k : Fin 16, (sl.rmap[k]).body ≠ none := by
  unfold Slot.lowestFreeReturn
  rw [find_finRange_eq_none]
  simp [Option.isNone_eq_false_iff, Option.isSome_iff_ne_none]

/-- The open count is 0 exactly when no entry is OPEN (R18). -/
theorem openCount_eq_zero (t : Tracker) : t.openCount = 0 ↔ ∀ k : Fin 32, (t.ort[k]).body = none := by
  unfold Tracker.openCount
  rw [List.countP_eq_zero]
  constructor
  · intro h k
    have := h t.ort[k] (by simp)
    simpa using this
  · intro h a ha
    obtain ⟨i, hi, rfl⟩ := Vector.getElem_of_mem (Vector.mem_toList_iff.mp ha)
    simpa using h ⟨i, hi⟩

/-- The freeing of an entry, in the terms of claims (R26, R58). -/
theorem freed_eq_withFreed (t : Tracker) (k : Fin 32) : t.freed k = t.withFreed k := by
  unfold Tracker.freed Tracker.withFreed
  have h : ({ t with ort := t.ort.set k { gen := (t.ort[k]).gen + 1, body := none }, age := t.age.erase k } : Tracker).openCount
      = 0 ↔ ∀ j : Fin 32, j ≠ k → (t.ort[j]).body = none := by
    rw [openCount_eq_zero]
    refine forall_congr' fun j => ?_
    simp only [Fin.getElem_fin, Vector.getElem_set, ne_eq, Fin.ext_iff, eq_comm (a := k.val)]
    by_cases hj : j.val = k.val <;> simp [hj]
  by_cases hp : ∀ j : Fin 32, j ≠ k → (t.ort[j]).body = none
  · simp only [if_pos hp]
    exact if_pos (h.mpr hp)
  · simp only [if_neg hp]
    exact if_neg (mt h.mp hp)

/-- The Progress Watch after an opening, in the terms of claims (R56). -/
theorem watchAfterOpen_eq (now : Tick) (sl : Slot) : watchAfterOpen now sl = watchOnOpen now sl := by
  unfold watchAfterOpen watchOnOpen
  simp only [openCount_eq_zero]
  rfl

/-- The opening of an entry, in the terms of claims (R19, R20, R56). -/
theorem openEntry_eq (s : State) (i : SlotId) (k : Fin 32) (b : OrtBody) (q : NonPosted) :
    s.openEntry i k b q = s.onSlot i fun sl =>
      sl.withOpened s.now k b (retag s.mgmt.requesterId (downstreamTag (sl.trk.ort[k]).gen k) q) := by
  simp only [State.openEntry, watchAfterOpen_eq, Slot.withOpened]

/-- The fields of a host entry, in the terms of claims (R21, R45, R46). -/
theorem hostBody_eq (s : State) (i : SlotId) (q : NonPosted) :
    s.hostBody i (formForCard (s.slots[i]).inForce.busFirst q) = requestBody s s.slots[i] q := by
  cases q with
  | memRead r => rfl
  | cfgRead r => simp only [State.hostBody, requestBody, formForCard, sendForm]; split <;> rfl
  | cfgWrite r d => simp only [State.hostBody, requestBody, formForCard, sendForm]; split <;> rfl

end Sys2Proof.Machine
end

