-- ==== Sys2Proof/Laws/Sequencer.lean ====
section
/-! SUPPORT. Ports, orders, controller requests and the Recovery Sequencer in the terms of claims. -/

namespace Sys2Proof.Machine

open Sys2Proof

variable (s : State)

/-- Every command answers a next state. -/
theorem exec_answers_next (c : Instr) : ∃ t, exec c s = .next t := by
  cases c <;> exact ⟨_, rfl⟩

/-! ### Slot Ports and orders -/

/-- The assert command (R105, R107, R108). -/
theorem State.assertLine_eq (i : SlotId) : s.assertLine i = s.onSlot i Slot.asserted := by
  unfold State.assertLine Slot.asserted
  simp only [Fin.getElem_fin]
  cases hl : (s.slots[i.val]).port.line <;> by_cases hu : (s.slots[i.val]).port.link = .up <;>
    simp [hl, hu, State.takeLinkDown, State.emptyOutbound, State.countPostedDiscarded, State.onCounters, State.onPort,
      State.onSlot, satAdd]

theorem orderOf_eq_some (code : Byte) (c : OrderCode) : Machine.orderOf code = some c ↔ code = c.code := by
  unfold Machine.orderOf
  constructor
  · intro h
    repeat' split at h
    all_goals first | (cases h; assumption) | cases h
  · rintro rfl
    cases c <;> rfl

theorem OrderUnit.orderIs_eq (sl : Slot) (c : OrderCode) : sl.ou.orderIs c = (sl.orderOfCode c.code).isSome := by
  unfold OrderUnit.orderIs Slot.orderOfCode
  cases h : sl.ou.order with
  | none => rfl
  | some o =>
    have ho := orderOf_eq_some o.code c
    by_cases hc : o.code = c.code
    · simp [hc, (orderOf_eq_some c.code c).mpr rfl]
    · simp [hc, mt ho.mp hc]

/-- The end of the order in progress if it has a code, in the terms of claims (R156). -/
theorem State.endOrderOf_eq (i : SlotId) (c : OrderCode) (outcome : OrderOutcome) (reason : Reason) (d1 d2 d3 : Dword) :
    s.endOrderOf i c outcome reason d1 d2 d3 =
      { s with
        slots := s.slots.set i { s.slots[i] with ou := (s.slots[i]).ouEnding s.now c.code outcome reason d1 d2 d3 },
        attn := s.attn ||| doneMask i s.slots[i] c.code } := by
  unfold State.endOrderOf doneMask Slot.ouEnding
  rw [OrderUnit.orderIs_eq]
  cases h : (s.slots[i]).orderOfCode c.code with
  | none =>
    show s = { s with slots := s.slots.set i s.slots[i], attn := s.attn ||| (0 : BitVec 24) }
    simp
  | some o =>
    have ho : (s.slots[i]).ou.order = some o := by
      have := h
      unfold Slot.orderOfCode at this
      exact (Option.filter_eq_some_iff.mp this).1
    simp only [Fin.getElem_fin] at ho
    simp [State.endOrder, ho, OrderUnit.finish, resultOf, OrderUnit.ended, State.raise, State.onOrderUnit, State.onSlot]

/-! ### Controller requests -/

/-- The entry of a controller read, in the terms of claims (R24). -/
theorem State.controllerBody_of_read (i : SlotId) (owner : RequestOwner) (offset : BitVec 10) :
    s.controllerBody i { owner := owner, offset := offset, write := none } = readBody s s.slots[i] owner offset := rfl

/-- The entry of a restore write, in the terms of claims (R24, R123). -/
theorem State.controllerBody_of_write (i : SlotId) (h : RecordInHand) :
    s.controllerBody i { owner := .plan, offset := h.offset, write := some (h.value, h.byteMask) } =
      writeBody s s.slots[i] h := rfl

/-- A controller read as it is sent (R10, R19). -/
theorem retag_sent_of_read (sl : Slot) (tag : BitVec 10) (owner : RequestOwner) (offset : BitVec 10) :
    retag s.mgmt.requesterId tag
      (({ owner := owner, offset := offset, write := none } : ControllerRequest).sent (controllerBus sl.inForce)) =
      readSent s sl tag offset := by
  have hb : controllerBus sl.inForce = if sl.inForce.busLast < sl.inForce.busFirst then 0 else sl.inForce.busFirst := by
    unfold controllerBus busRangeOf
    split <;> rfl
  rw [hb]
  rfl

/-- The entry of a controller request, in the terms of claims (R24). -/
theorem State.controllerBody_eq (i : SlotId) (c : ControllerRequest) :
    s.controllerBody i c = controllerOpens s s.slots[i] c := by
  obtain ⟨owner, offset, _ | ⟨data, enables⟩⟩ := c <;> rfl

/-- A controller request as it is sent, in the terms of claims (R10, R19). -/
theorem retag_sent_eq (sl : Slot) (tag : BitVec 10) (c : ControllerRequest) :
    retag s.mgmt.requesterId tag (c.sent (controllerBus sl.inForce)) = controllerSends s sl tag c := by
  have hb : controllerBus sl.inForce = if sl.inForce.busLast < sl.inForce.busFirst then 0 else sl.inForce.busFirst := by
    unfold controllerBus busRangeOf
    split <;> rfl
  rw [hb]
  obtain ⟨owner, offset, _ | ⟨data, enables⟩⟩ := c <;> rfl

/-- The opening of an entry by a controller request, in the terms of claims (R24). -/
theorem State.openController_eq (i : SlotId) (k : Fin 32) (c : ControllerRequest) :
    s.openController i k c = s.onSlot i fun sl =>
      sl.withOpened s.now k (controllerOpens s sl c)
        (controllerSends s sl (downstreamTag (sl.trk.ort[k]).gen k) c) := by
  unfold State.openController
  rw [openEntry_eq, State.controllerBody_eq]
  simp only [State.onSlot, retag_sent_eq]

/-- An owner's end where it has no request (R25). -/
theorem State.endOwner_of_noPlanRequest (i : SlotId) (h : NoPlanRequest s.slots[i]) : s.endOwner i .plan = s := by
  have hw : (s.slots[i]).trk.waiting.any (fun c => c.owner == .plan) = false := by
    cases hc : (s.slots[i]).trk.waiting with
    | none => rfl
    | some c => simpa using h.2 c hc
  have he : (s.slots[i]).trk.ownedEntry .plan = none := by
    unfold Tracker.ownedEntry
    rw [find_finRange_eq_none]
    intro k
    unfold OrtEntry.ownedBy
    cases hb : ((s.slots[i]).trk.ort[k]).body with
    | none => rfl
    | some b => simpa using h.1 k b hb
  unfold State.endOwner
  simp only [hw, he, Bool.false_eq_true, if_false]

/-! ### The grant -/

/-- No entry is chosen exactly when none is eligible (R115). -/
theorem State.chosen_eq_none : s.chosen = none ↔ NoneEligible s := by
  unfold State.chosen State.lowestEligible NoneEligible
  constructor
  · intro h k e he
    split at h
    · cases h
    · rename_i hu
      have hu := (find_finRange_eq_none _).mp hu k
      have hr := (find_finRange_eq_none _).mp h k
      simp only [State.eligibleAt, he, Option.any_some, QueueEntry.isEligible] at hu hr
      cases hl : e.level <;> simp_all
  · intro h
    have hn : ∀ level k, s.eligibleAt level k = false := by
      intro level k
      unfold State.eligibleAt
      cases he : s.queue[k] with
      | none => rfl
      | some e => simp [QueueEntry.isEligible, h k e he]
    rw [(find_finRange_eq_none _).mpr (hn .urgent), (find_finRange_eq_none _).mpr (hn .routine)]

/-- No grant while no entry is eligible. -/
theorem State.grantIfIdle_of_noneEligible (h : NoneEligible s) : s.grantIfIdle = s := by
  unfold State.grantIfIdle
  rw [(s.chosen_eq_none).mpr h]
  simp

/-- Nothing is set aside or granted while no entry is eligible (R115, R116). -/
theorem State.arbitrate_of_noneEligible (h : NoneEligible s) : s.arbitrate = s := by
  have hu : s.lowestEligible .urgent = none := by
    have hc := (s.chosen_eq_none).mpr h
    unfold State.chosen at hc
    split at hc
    · cases hc
    · assumption
  unfold State.arbitrate State.setAside
  cases hp : s.plan with
  | none => exact s.grantIfIdle_of_noneEligible h
  | some p =>
    simp only [State.mustSetAside, hu, Option.isSome_none, Bool.and_false, Bool.false_eq_true, if_false]
    exact s.grantIfIdle_of_noneEligible h

/-- No grant while a plan runs. -/
theorem State.grantIfIdle_of_plan (p : Plan) (h : s.plan = some p) : s.grantIfIdle = s := by
  simp [State.grantIfIdle, h]

/-- A plan that is URGENT or past TRAINING is neither set aside nor joined by a grant (R115, R116). -/
theorem State.arbitrate_of_planRunsOn (h : PlanRunsOn s) : s.arbitrate = s := by
  obtain ⟨p, hp, hc⟩ := h
  have hm : s.mustSetAside p = false := by
    unfold State.mustSetAside
    rcases hc with hc | hc | hc <;> simp [hc]
  unfold State.arbitrate State.setAside
  simp only [hp, hm, Bool.false_eq_true, if_false]
  exact s.grantIfIdle_of_plan p hp

/-- The grant of an entry, in the terms of claims (R111, R115, R118). -/
theorem State.grant_eq (i : SlotId) (e : QueueEntry) (h : s.queue[i] = some e) :
    s.grant i =
      { s with
        slots := s.slots.set i (s.slots[i]).asserted, attn := s.attn ||| attentionMask i .stateChange,
        queue := s.queue.set i none,
        plan := some (planGranted s.now i e.level e.attempt
          (min ((s.slots[i]).inForce.holdMs.toNat * 2 ^ (e.attempt - 1)) 1000)) } := by
  unfold State.grant
  rw [h]
  simp only [State.assertLine_eq]
  rfl

end Sys2Proof.Machine
end

