-- ==== Sys2Proof/Laws/Fences.lean ====
section
/-! SUPPORT. Incidents, and the settling and the closure of a fence, in the terms of claims. -/

namespace Sys2Proof.Machine

open Sys2Proof

variable (s : State)

/-- The filing of an incident, in the terms of claims (R170, R171). -/
theorem State.fileIncident_eq_incidentAt (i : SlotId) (kind : IncidentKind) (reason : Reason) (a b c : Option Dword) :
    s.fileIncident i kind reason a b c =
      { s with
        slots := s.slots.set i { s.slots[i] with
          inc := (s.slots[i]).inc.file (incidentAt s 1 kind (s.slots[i]).cu.st (s.phaseOf i) (s.slots[i]).port.epoch
            (s.slots[i]).attempt reason a b c) },
        attn := s.attn ||| attentionMask i .incident, incidentSerial := s.incidentSerial + 1 } := rfl

/-- The phase of a slot that is not RECOVERING (R111). -/
theorem State.phaseOf_of_not_recovering (i : SlotId) (h : (s.slots[i]).cu.st ≠ .recovering) : s.phaseOf i = .none :=
  if_neg h

/-- The settling of a FREE entry (R40). -/
theorem State.settleEntry_of_free (i : SlotId) (r : Settled) (k : Fin 32) (h : ((r.state.slots[i]).trk.ort[k]).body = none) :
    State.settleEntry i r k = r := by
  unfold State.settleEntry
  simp only [h]

/-- The settling of every entry where none is OPEN: a waiting controller request is withdrawn, and no more (R40). -/
theorem State.closeAll_of_quiet (i : SlotId) (h : ∀ k : Fin 32, ((s.slots[i]).trk.ort[k]).body = none) :
    s.closeAll i =
      { state := s.onTracker i fun t => { t with waiting := none }, completions := 0, requests := 0 } := by
  have hf : ∀ ks : List (Fin 32), ks.foldl (State.settleEntry i) { state := s, completions := 0, requests := 0 } =
      { state := s, completions := 0, requests := 0 } := by
    intro ks
    induction ks with
    | nil => rfl
    | cons k ks ih => rw [List.foldl_cons, State.settleEntry_of_free i _ k (h k), ih]
  unfold State.closeAll
  rw [hf]

/-- The closure of a fence that nothing follows, where no entry is OPEN (R70 to R74). -/
theorem State.closeFence_of_quiet (i : SlotId) (h : ∀ k : Fin 32, ((s.slots[i]).trk.ort[k]).body = none)
    (hs : (s.slots[i]).StaysFenced) :
    s.closeFence i =
      { s with
        slots := s.slots.set i ((s.slots[i]).fenceClosed s 1),
        attn := s.attn ||| attentionMask i .incident ||| attentionMask i .stateChange ||| doneMask i s.slots[i] 3,
        incidentSerial := s.incidentSerial + 1 } := by
  unfold State.closeFence
  rw [State.closeAll_of_quiet _ i (by simpa [State.onCu, State.onSlot] using h)]
  unfold State.reachFenced
  simp only [State.endOrderOf_eq]
  unfold State.applyFollowUp
  obtain ⟨hf, ha⟩ := hs
  have hn : ¬ (s.slots[i]).inForce.autoRecover = 0#8 → (s.slots[i]).cu.cause = .order := ha.resolve_left
  simp only [Fin.getElem_fin] at hf hn
  simp [State.fileIncident, State.incidentRecord, State.phaseOf, State.raise, State.onCu, State.onTracker, State.onSlot,
    State.setSlotState, State.addTally, hf, Slot.fenceClosed, incidentAt, countDword, Slot.ouEnding,
    Slot.orderOfCode, doneMask, OrderCode.code]
  exact fun h1 h2 => absurd (hn h1) h2

end Sys2Proof.Machine
end

