-- ==== Sys2Proof/Laws/Orders.lean ====
section
/-! SUPPORT. What the hand-over of an order does (R153, R154). -/

namespace Sys2Proof.Machine

open Sys2Proof

/-- The two bytes of an order number make the number. -/
theorem number_of_bytes (n : BitVec 16) : n.extractLsb' 8 8 ++ n.extractLsb' 0 8 = n := by
  apply BitVec.eq_of_getLsbD_eq
  intro i hi
  rw [BitVec.getLsbD_append]
  simp only [BitVec.getLsbD_extractLsb']
  split
  · simp [*]
  · have h : i - 8 < 8 := by omega
    have h' : 8 + (i - 8) = i := by omega
    simp [h, h']

/-- R154: a write that touches the Order Cell while the owner is CONTROLLER. -/
theorem writeOrderCell_of_controller (s : State) (i : SlotId) (w : CellWrite) (ht : touchesCell w = true)
    (ho : (s.slots[i]).ou.cell.owner = .controller) :
    s.writeOrderCell i w = s.onSlot i fun sl => { sl with ou := { sl.ou with collision := true } } := by
  simp only [Fin.getElem_fin] at ho
  simp [State.writeOrderCell, ht, ho, State.onOrderUnit]

/-- A write that touches no byte of the Order Cell. -/
theorem writeOrderCell_of_untouched (s : State) (i : SlotId) (w : CellWrite) (ht : touchesCell w = false) :
    s.writeOrderCell i w = s := by
  simp [State.writeOrderCell, ht]

/-- R153: the hand-over while the owner is SOFTWARE: the Order Unit takes the order, ORDER_DONE is cleared, and the order is
judged. -/
theorem handOver_of_software (s : State) (i : SlotId) (code : Byte) (number : BitVec 16) (priority : Byte)
    (h : (s.slots[i]).ou.cell.owner = .software) :
    s.handOver i code number priority =
      (({ s with
          attn := s.attn &&& ~~~ (attentionMask i Attention.orderDone),
          slots := s.slots.set i { s.slots[i] with
            ou := (s.slots[i]).ou.begun code number priority (orderLevel priority (s.slots[i]).inForce)
              (s.slots[i]).cu.st } } : State).judgeOrder i code (orderLevel priority (s.slots[i]).inForce)) := by
  simp only [Fin.getElem_fin] at h
  simp [State.handOver, State.writeOrderCell, touchesCell, handOverWrite, h, State.takeOrder, OrderCell.store,
    Slot.newOrder, OrderUnit.begun, State.clearAttention, State.onOrderUnit, State.onSlot, number_of_bytes]

/-- R154: the hand-over while the owner is CONTROLLER. -/
theorem handOver_of_controller (s : State) (i : SlotId) (code : Byte) (number : BitVec 16) (priority : Byte)
    (h : (s.slots[i]).ou.cell.owner = .controller) :
    s.handOver i code number priority = s.onSlot i fun sl => { sl with ou := { sl.ou with collision := true } } :=
  writeOrderCell_of_controller s i _ rfl h

end Sys2Proof.Machine
end

