-- ==== Sys2Proof/Tests/Slice0.lean ====
section
/-! SUPPORT. Tests of the model: ill-formed commands, one or two small tests of each command with the values that the
manual gives, and for each statement with hypotheses a state and operands that meet them. -/

namespace Sys2Proof.Tests

open Sys2Proof Sys2Proof.Machine

/-! ### States -/

/-- The state after a command. -/
def ran (c : Instr) (s : State) : State :=
  match exec c s with
  | .next t => t
  | .fault _ => s
  | .refused _ => s

/-- The machine after reset with slot `i` as `sl`. -/
def only (i : SlotId) (sl : Slot) : State := { State.reset with slots := State.reset.slots.set i sl }

def put (i : SlotId) (sl : Slot) (s : State) : State := { s with slots := s.slots.set i sl }

def atTick (now : Tick) (s : State) : State := { s with now := now }

/-- Default settings with a window and a bus range. -/
def routing (base limit : BitVec 64) (first last : Byte) : SlotSettings :=
  { SlotSettings.default with windowBase := base, windowLimit := limit, busFirst := first, busLast := last }

/-- A slot in a state, its card present, its link UP and its reset line RELEASED, with settings applied. -/
def inState (st : SlotState) (f : SlotSettings) : Slot :=
  { Slot.reset with
    cu := { Containment.reset with st := st, period := 1 }, cells := f, inForce := f,
    port := { SlotPort.reset with accepted := .present, link := .up, line := .released } }

def inService : Slot := inState .active SlotSettings.default

def openAt (k : Fin 32) (gen : BitVec 3) (b : OrtBody) (sl : Slot) : Slot :=
  { sl with trk := { sl.trk with ort := sl.trk.ort.set k { gen := gen, body := some b }, age := sl.trk.age ++ [k] } }

def freeAt (k : Fin 32) (gen : BitVec 3) (sl : Slot) : Slot :=
  { sl with trk := { sl.trk with ort := sl.trk.ort.set k { gen := gen, body := none } } }

def returnAt (k : Fin 16) (gen : BitVec 3) (b : ReturnBody) (sl : Slot) : Slot :=
  { sl with rmap := sl.rmap.set k { gen := gen, body := some b } }

def body (kind : EntryKind) (requested owed : Nat) (arrival deadline : Tick) : OrtBody :=
  { origin := .upstream 0x0100 0x2A7, kind := kind, bytesRequested := requested, bytesOwed := owed, arrival := arrival,
    deadline := deadline, gathered := [] }

def read64 : OrtBody := body (.memRead 0x80100000) 64 64 0 2001

/-- A slot in whose ORT all 32 entries are OPEN, with `n` items in the Hold Queue. -/
def full (n : Nat) : Slot :=
  { inService with trk := { inService.trk with
    ort := Vector.replicate 32 { gen := 0, body := some read64 }, age := List.finRange 32,
    hold := List.replicate n { body := read64, request := .cfgRead {
      requesterId := 0, tag := 0, form := .localForm, bus := 0, device := 0, function := 0, offset := 0, enables := 0xF } } } }

def withOrder (code : Byte) (taken : SlotState) (sl : Slot) : Slot :=
  { sl with ou := { sl.ou with
    cell := { owner := .controller, code := code, number := 0x31, priority := 0 },
    order := some { code := code, number := 0x31, level := .routine, taken := taken } } }

def planIn (i : SlotId) (phase : PlanPhase) : Plan := { planGranted 1000000 i .routine 1 10 with phase := phase, holdTick := none }

def withPlan (p : Plan) (s : State) : State := { s with plan := some p }

def queued (i : SlotId) (level : Level) (attempt : Nat) (earliest : Tick) (eligible : Bool) (s : State) : State :=
  { s with queue := s.queue.set i (some { level := level, attempt := attempt, earliest := earliest, eligible := eligible }) }

/-- The three slots of section 1.5. -/
def mixed : State :=
  put 0 (inState .active (routing 0xE0000000 0xE0FFFFFF 0x10 0x10))
    (put 1 (inState .fenced (routing 0xE1000000 0xE13FFFFF 0x11 0x13))
      (put 2 (inState .active { SlotSettings.default with busFirst := 0x14, busLast := 0x14 })
        { State.reset with mgmt := { ManagementFunction.powerOn with bar := some 0xDFFF0000 } }))

def memory (address : BitVec 64) (length : Nat) (first last : BitVec 4) : MemRequest :=
  { requesterId := 0x0100, tag := 0x2A7, address := address, length := length, firstEnables := first, lastEnables := last,
    others := 0x5A }

def config (form : RequestForm) (bus : BitVec 8) (device : BitVec 5) (offset : BitVec 10) : CfgRequest :=
  { requesterId := 0x0100, tag := 0x2A7, form := form, bus := bus, device := device, function := 0, offset := offset,
    enables := 0xF }

def answered (tag : BitVec 10) (count : Nat) (lower : BitVec 7) (dwords : Nat) : Completion :=
  { requesterId := 0, tag := tag, status := .success, byteCount := count, lowerAddress := lower,
    data := List.replicate dwords 0x11223344 }

def refused (tag : BitVec 10) (status : CplStatus) : Completion :=
  { requesterId := 0, tag := tag, status := status, byteCount := 4, lowerAddress := 0, data := [] }

/-- The status, byte count, lower address and dwords of the completions that have left the Upstream Port. -/
def sentCompletions (s : State) : List (CplStatus × Nat × Nat × Nat) :=
  s.wires.upstream.filterMap fun p => match p with
    | .completion c => some (c.status, c.byteCount, c.lowerAddress.toNat, c.data.length)
    | .memRead _ => none
    | .memWrite _ _ => none
    | .message _ => none
    | .interrupt _ _ => none

/-- The serial, kind, reason and values of an incident record. -/
def filed (s : State) (i : SlotId) (k : Fin 8) : Nat × Option IncidentKind × Reason × List (Option Dword) :=
  let r := ((s.slots[i]).inc.records[k])
  (r.serial.toNat, r.kind, r.reason, [r.valueA, r.valueB, r.valueC])

/-! ### Well-formed and ill-formed commands -/

/-- R2: 1 to 1,024 dwords at a dword-aligned address, the last byte enables only at 2 dwords or more. -/
theorem test_wf_memory :
    (memory 0x1000 1 0xF 0).wf = true ∧ (memory 0x1000 1024 0xF 0xF).wf = true ∧ (memory 0x1000 0 0xF 0).wf = false ∧
      (memory 0x1000 1025 0xF 0xF).wf = false ∧ (memory 0x1002 1 0xF 0).wf = false ∧ (memory 0x1000 1 0xF 1).wf = false := by
  decide

/-- R2: a read of 2 dwords requests 2 bytes at least. -/
theorem test_wf_reads :
    Instr.wf (.hostMemRead (memory 0x1000 2 0x8 0x1)) = true ∧ Instr.wf (.hostMemRead (memory 0x1000 2 0 0x1)) = false ∧
      Instr.wf (.cardMemRead 0 (memory 0x1000 2 0x8 0)) = false ∧ Instr.wf (.cardMemRead 0 (memory 0x1000 1 0 0)) = true := by
  decide

/-- R2: a write carries as many dwords as its length says. -/
theorem test_wf_writes :
    Instr.wf (.hostMemWrite (memory 0x1000 2 0xF 0xF) [0, 0]) = true ∧
      Instr.wf (.hostMemWrite (memory 0x1000 2 0xF 0xF) [0]) = false ∧
      Instr.wf (.cardMemWrite 0 (memory 0x1000 1 0xF 0) []) = false := by decide

/-- R4: a byte count of 1 to 4,096, and data only with SUCCESS. -/
theorem test_wf_completions :
    Instr.wf (.cardCompletion 0 (answered 0 4096 0 1)) = true ∧ Instr.wf (.cardCompletion 0 (answered 0 4097 0 1)) = false ∧
      Instr.wf (.hostCompletion (answered 0 0 0 1)) = false ∧
      Instr.wf (.hostCompletion { refused 0 .unsupported with data := [0] }) = false := by decide

/-- R4: no more data than 1,024 dwords. -/
theorem test_wf_completion_data : Instr.wf (.cardCompletion 0 (answered 0 4 0 1025)) = false := by
  decide +kernel

/-- R155: a code of an order is no unknown code. -/
theorem test_wf_unknown_codes :
    Instr.wf (.orderUnknownCode 0 0 0 0) = true ∧ Instr.wf (.orderUnknownCode 0 8 0 0) = true ∧
      Instr.wf (.orderUnknownCode 0 1 0 0) = false ∧ Instr.wf (.orderUnknownCode 0 7 0 0) = false := by decide

/-- R150: a write of the window starts at a dword of its 64 KiB. -/
theorem test_wf_window_writes :
    Instr.wf (.swaWrite (byteWrite 65535 0)) = true ∧ Instr.wf (.swaWrite (byteWrite 65536 0)) = false ∧
      Instr.wf (.swaWrite { offset := 2, bytes := [] }) = false := by decide

theorem test_wf_window_write_length : Instr.wf (.swaWrite { offset := 0, bytes := List.replicate 4097 none }) = false := by
  decide +kernel

/-- R22: the Hold Queue has 8 places. -/
theorem test_wf_held_places :
    Instr.wf (.heldItemExpiry 0 7) = true ∧ Instr.wf (.heldItemExpiry 0 8) = false := by decide

/-- No row of the table gives bits. -/
theorem test_no_word_spells_a_command : decodeTableWord 32 0 = none ∧ State.reset.withFetchWord 32 0 = State.reset := by
  decide

/-! ### Resets and the front registers -/

/-- R109 and section 6.5: after power-on reset a slot is EMPTY with its line ASSERTED and its link DOWN. -/
theorem test_power_on_reset :
    let t := ran .powerOnReset (atTick 77 mixed)
    t.now = 0 ∧ (t.slots[0]).cu.st = .empty ∧ (t.slots[0]).port.line = .asserted ∧ (t.slots[0]).port.link = .down := by decide

/-- R63, R110, R165: a hot reset makes an ACTIVE slot OFFLINE with its line ASSERTED, and the BAR is assigned no more. -/
theorem test_upstream_hot_reset :
    let t := ran .upstreamHotReset (atTick 77 mixed)
    t.now = 77 ∧ (t.slots[0]).cu.st = .offline ∧ (t.slots[0]).port.line = .asserted ∧ (t.slots[0]).port.epoch = 1 ∧
      (t.slots[3]).cu.st = .empty ∧ t.mgmt.bar = none := by decide

/-- R42: an OPEN entry is freed without a completion, its generation advanced. -/
theorem test_upstream_link_down :
    let t := ran .upstreamLinkDown (only 3 (openAt 6 7 read64 inService))
    (t.slots[3]).trk.ort[6] = { gen := 0, body := none } ∧ (t.slots[3]).trk.age = [] ∧ t.wires.upstream = [] := by decide

/-- R165: the commanded form keeps the BAR. R166: an order in progress ends ABORTED without ORDER_DONE. -/
theorem test_hierarchy_reset :
    let t := ran (.hierarchyReset false) (put 5 (withOrder 4 .fenced inService) mixed)
    t.mgmt.bar = some 0xDFFF0000 ∧ (t.slots[5]).ou.result.outcome = .aborted ∧ (t.slots[5]).ou.cell.owner = .software ∧
      t.attn = 0 := by decide

/-- R152: with both bits set, APPLY_DEVICE is taken too. -/
theorem test_hierarchy_reset_with_apply :
    (ran (.hierarchyReset true) { State.reset with deviceCells := { ceilingUs := 99, returnLimitMs := 7 } }).device =
      { ceilingUs := 100, returnLimitMs := 7 } := by decide

/-- R163: ceiling_us above 4,194,303 becomes 4,194,303; return_limit_ms 0 becomes 1. -/
theorem test_apply_device :
    let t := ran .applyDevice { State.reset with deviceCells := { ceilingUs := 4194304, returnLimitMs := 0 } }
    t.device = { ceilingUs := 4194303, returnLimitMs := 1 } ∧ t.deviceCells = t.device := by decide

/-- R167: a 1 clears the bit, in the enabled bytes only. -/
theorem test_attn_write : (ran (.attnWrite 0x1 0xFFFFFF) { State.reset with attn := 0xABCDEF }).attn = 0xABCD00 := by decide

/-- R169: enabling a set bit sends the message; enabling one more sends none. -/
theorem test_attn_enable_write :
    let s := { State.reset with attn := 3, mgmt := { ManagementFunction.powerOn with msiEnabled := true, msiData := 9 } }
    (ran (.attnEnableWrite 0xF 1) s).wires.upstream = [.interrupt 0 9] ∧
      (ran (.attnEnableWrite 0xF 3) { s with attnEnable := 1 }).wires.upstream = [] := by decide

/-! ### Orders -/

/-- R160: slot 1 asks for a window that slot 0 has in force. -/
theorem test_order_apply_overlap :
    let s := put 1 { (mixed.slots[1]) with cells := routing 0xE0FFF000 0xE1FFFFFF 0x11 0x13 } mixed
    let t := ran (.orderApply 1 5 0) s
    (t.slots[1]).ou.result.outcome = .refusedSettings ∧ (t.slots[1]).ou.result.reason = .routingOverlap ∧
      (t.slots[1]).ou.result.detail1 = 0 ∧ (t.slots[1]).inForce = (mixed.slots[1]).inForce := by decide

/-- R161: watch_period 64 becomes 63, hold_ms 0 becomes 1, attempt_limit 9 becomes 7: three settings clamped. -/
theorem test_order_apply_clamps :
    let c := { SlotSettings.default with watchPeriod := 64, holdMs := 0, attemptLimit := 9 }
    let t := ran (.orderApply 0 5 0) (only 0 { Slot.reset with cells := c })
    (t.slots[0]).ou.result.outcome = .done ∧ (t.slots[0]).ou.result.detail1 = 3 ∧ (t.slots[0]).inForce.watchPeriod = 63 ∧
      (t.slots[0]).inForce.holdMs = 1 ∧ (t.slots[0]).inForce.attemptLimit = 7 ∧ t.attn = 1 := by decide

/-- Section 8.6, tick 100,000: the engine is busy and the identity read is issued; R46: its deadline is 110,001. -/
theorem test_order_capture :
    let t := ran (.orderCapture 0 5 0) (atTick 100000 (only 0 inService))
    ((t.slots[0]).trk.ort[0]).body.map (·.deadline) = some 110001 ∧ (t.slots[0]).capture.map (·.step) = some .identity ∧
      (t.slots[0]).ou.cell.owner = .controller := by decide

/-- R155: CAPTURE in FENCED is refused with the slot state and the link state. -/
theorem test_order_capture_refused :
    let t := ran (.orderCapture 1 5 0) mixed
    (t.slots[1]).ou.result.outcome = .refusedState ∧ (t.slots[1]).ou.result.reason = .wrongState ∧
      (t.slots[1]).ou.result.detail1 = 4 ∧ (t.slots[1]).ou.result.detail2 = 2 := by decide

/-- R74: in ACTIVE a trigger is reported; in FENCED the order ends ALREADY. -/
theorem test_order_fence :
    ((ran (.orderFence 0 5 0) mixed).slots[0]).cu.triggers = [{ cause := .order, period := 1 }] ∧
      ((ran (.orderFence 1 5 0) mixed).slots[1]).ou.result.outcome = .already := by decide

/-- Section 11.2, tick 200,000: granted in the same event, hold 210,000, epoch 5. -/
theorem test_order_recover :
    let sl := inState .fenced SlotSettings.default
    let t := ran (.orderRecover 0 5 0) (atTick 200000 (only 0 { sl with port := { sl.port with epoch := 4 } }))
    t.plan.bind (·.holdTick) = some 210000 ∧ (t.slots[0]).port.epoch = 5 ∧ (t.slots[0]).port.link = .down ∧
      (t.slots[0]).cu.st = .recovering ∧ (t.slots[0]).attempt = 1 := by decide

/-- Section 9.7, tick 400,000: slot 2's plan is in SETTLING, so slot 5 is QUEUED. -/
theorem test_order_recover_queued :
    let t := ran (.orderRecover 5 0x31 0) (atTick 400000 (withPlan (planIn 2 .settling)
      (only 5 (inState .fenced SlotSettings.default))))
    t.phaseOf 5 = .queued ∧ t.queue[5] = some { level := .routine, attempt := 1, earliest := 400000, eligible := true } := by
  decide

/-- Section 9.7, tick 401,200: DONE with detail 1 = ORDER, and the slot is ACTIVE. -/
theorem test_order_lift :
    let sl := inState .fenced SlotSettings.default
    let fenced := { sl with cu := { sl.cu with cause := .order }, ou := { sl.ou with collision := true } }
    let t := ran (.orderLift 5 0x32 0) (atTick 401200 (only 5 fenced))
    (t.slots[5]).cu.st = .active ∧ (t.slots[5]).ou.result.outcome = .done ∧ (t.slots[5]).ou.result.detail1 = 1 ∧
      (t.slots[5]).ou.collision = false := by decide

/-- R76: with the link DOWN the LIFT is refused with LINK_NOT_UP. -/
theorem test_order_lift_link_down :
    let sl := inState .fenced SlotSettings.default
    let t := ran (.orderLift 5 0x32 0) (only 5 { sl with port := { sl.port with link := .down } })
    (t.slots[5]).cu.st = .fenced ∧ (t.slots[5]).ou.result.reason = .linkNotUp := by decide

/-- R77: RETIRE in FENCED: RETIRED is filed and the line is asserted. -/
theorem test_order_retire :
    let t := ran (.orderRetire 1 5 0) mixed
    (t.slots[1]).cu.st = .retired ∧ (t.slots[1]).port.line = .asserted ∧
      filed t 1 0 = (1, some .retired, .cause .order, [some 4, none, none]) := by decide

/-- R78: REINSTATE makes a RETIRED slot OFFLINE at attempt 0. -/
theorem test_order_reinstate :
    let t := ran (.orderReinstate 1 5 0) (only 1 { inState .retired SlotSettings.default with attempt := 3 })
    (t.slots[1]).cu.st = .offline ∧ (t.slots[1]).attempt = 0 ∧ t.attn = 0x18 := by decide

/-- R155, R157: REFUSED_CODE with the code in detail 1. -/
theorem test_order_unknown_code :
    let t := ran (.orderUnknownCode 0 0x77 5 0) State.reset
    (t.slots[0]).ou.result.outcome = .refusedCode ∧ (t.slots[0]).ou.result.detail1 = 0x77 ∧ t.attn = 1 := by decide

/-- Section 9.7, tick 400,500: the write is discarded and order_collision is set. -/
theorem test_order_cell_write :
    let w : CellWrite := { owner := none, code := some 5, numberLow := none, numberHigh := none, priority := none,
                           other := false }
    let t := ran (.orderCellWrite 5 w) (only 5 (withOrder 4 .fenced inService))
    (t.slots[5]).ou.collision = true ∧ (t.slots[5]).ou.cell.code = 4 := by decide

/-- R153: fields are stored while the owner is SOFTWARE, and owner 1 hands over the order that stands in the cell. -/
theorem test_order_cell_hand_over :
    let w : CellWrite := { owner := some 1, code := some 5, numberLow := some 0x32, numberHigh := none, priority := none,
                           other := false }
    let t := ran (.orderCellWrite 5 w) (only 5 (inState .fenced SlotSettings.default))
    (t.slots[5]).ou.result.number = 0x32 ∧ (t.slots[5]).cu.st = .active := by decide

/-- R158: a write of 1 latches a cancel; any other value does not. -/
theorem test_cancel_cell_write :
    ((ran (.cancelCellWrite 0 1) State.reset).slots[0]).ou.cancel = true ∧
      ((ran (.cancelCellWrite 0 3) State.reset).slots[0]).ou.cancel = false := by decide

/-- Section 9.7, tick 401,000: the entry is removed, the slot is FENCED, the order ends CANCELLED with detail 1 = 1. -/
theorem test_cancel_taken :
    let sl := withOrder 4 .fenced (inState .recovering SlotSettings.default)
    let t := ran (.cancelTaken 5) (queued 5 .routine 1 400000 true (withPlan (planIn 2 .settling)
      (only 5 { sl with ou := { sl.ou with cancel := true }, attempt := 1 })))
    t.queue[5] = none ∧ (t.slots[5]).cu.st = .fenced ∧ (t.slots[5]).attempt = 0 ∧
      (t.slots[5]).ou.result.outcome = .cancelled ∧ (t.slots[5]).ou.result.detail1 = 1 ∧ (t.slots[5]).ou.cancel = false := by
  decide

/-- R171: software frees a record with 0; the other fields stay. -/
theorem test_incident_state_write :
    let s := ran (.orderRetire 1 5 0) mixed
    (((ran (.incidentStateWrite 1 0 0) s).slots[1]).inc.records[0]).filled = false ∧
      filed (ran (.incidentStateWrite 1 0 0) s) 1 0 = filed s 1 0 := by decide

/-- Section 9.3: window_base of slot 2 stands at 0x3040. R151: a cell stored is not in force. -/
theorem test_swa_write :
    let t := ran (.swaWrite (byteWrite 0x3040 0xAB)) State.reset
    t.windowByte 0x3040 = 0xAB ∧ (t.slots[2]).cells.windowBase = 0xFFFFFFFFFFFFF0AB ∧
      (t.slots[2]).inForce.windowBase = 0xFFFFFFFFFFFFF000 := by decide

/-- R152: NOW is read only. -/
theorem test_swa_write_discarded : ran (.swaWrite (byteWrite 0x008 1)) State.reset = State.reset := by decide

/-! ### Host traffic -/

/-- Section 1.5, request 1: 12 bytes from 0xE000_1006, and section 1.5, request 4: UNSUPPORTED, byte count 4. -/
theorem test_host_mem_read :
    (((ran (.hostMemRead (memory 0xE0001004 4 0xC 0x3)) mixed).slots[0]).trk.ort[0]).body =
        some { body (.memRead 0xE0001006) 12 12 0 2001 with origin := .upstream 0x0100 0x2A7 } ∧
      sentCompletions (ran (.hostMemRead (memory 0xE2000000 1 0xF 0)) mixed) = [(.unsupported, 4, 0, 0)] ∧
      (ran (.hostMemRead (memory 0xE2000000 1 0xF 0)) mixed).unrouted = 1 := by decide

/-- Section 2.9, event 1: entry 6 at generation 3 opens, and the request is sent under tag 102. -/
theorem test_host_mem_read_tag :
    let b := body (.memRead 0) 4 4 0 2001
    let sl := freeAt 6 3 (openAt 5 0 b (openAt 4 0 b (openAt 3 0 b (openAt 2 0 b (openAt 1 0 b (openAt 0 0 b
      (inState .active (routing 0xE0000000 0xE0FFFFFF 0x10 0x10))))))))
    let t := ran (.hostMemRead (memory 0xE0002000 64 0xC 0x3)) (only 3 sl)
    (t.slots[3]).trk.age = [0, 1, 2, 3, 4, 5, 6] ∧
      (t.slots[3]).port.outbound = [.request (.memRead { memory 0xE0002000 64 0xC 0x3 with requesterId := 0, tag := 102 })] ∧
      ((t.slots[3]).trk.ort[6]).body.map (·.bytesRequested) = some 252 := by decide

/-- Section 1.5, request 2: slot 1's posted_discarded becomes 1. -/
theorem test_host_mem_write :
    ((ran (.hostMemWrite (memory 0xE1200000 1 0xF 0) [0]) mixed).slots[1]).ctr.postedDiscarded = 1 := by decide

/-- Section 1.5, requests 3 and 8: a stand-in of one dword of ones; UNSUPPORTED, byte count 4. -/
theorem test_host_cfg_read :
    let t := ran (.hostCfgRead (config .routedForm 0x12 0 4)) mixed
    t.wires.upstream = [.completion { answered 0x2A7 4 0 0 with requesterId := 0x0100, data := [0xFFFFFFFF] }] ∧ (t.slots[1]).ctr.standinsIssued = 1 ∧
      sentCompletions (ran (.hostCfgRead (config .localForm 0 1 0)) mixed) = [(.unsupported, 4, 0, 0)] := by decide

/-- Section 1.5, request 5: sent to the card in form LOCAL, and it reaches the primary function. -/
theorem test_host_cfg_write :
    let t := ran (.hostCfgWrite (config .routedForm 0x14 0 1) 7) mixed
    (t.slots[2]).port.outbound =
        [.request (.cfgWrite { config .localForm 0x14 0 1 with requesterId := 0, tag := 0 } 7)] ∧
      ((t.slots[2]).trk.ort[0]).body.map (·.kind) = some (.cfgWrite 1 true 7 0xF) := by decide

/-- Section 1.5, request 7: the broadcast. -/
theorem test_host_message :
    let t := ran (.hostMessage { cls := .other, requesterId := 0x0100, routing := .broadcast }) mixed
    (t.slots[0]).port.outbound.length = 1 ∧ (t.slots[2]).port.outbound.length = 1 ∧
      (t.slots[1]).ctr.postedDiscarded = 1 ∧ (t.slots[7]).ctr.postedDiscarded = 1 ∧ (t.slots[2]).ctr.postedDiscarded = 0 := by
  decide

/-- R6: UNSUPPORTED if non-posted; the unrouted counter rises in both cases. -/
theorem test_host_unrecognised_request :
    sentCompletions (ran (.hostUnrecognisedRequest 1 2 true) mixed) = [(.unsupported, 4, 0, 0)] ∧
      (ran (.hostUnrecognisedRequest 1 2 false) mixed).unrouted = 1 ∧
      (ran (.hostUnrecognisedRequest 1 2 false) mixed).wires.upstream = [] := by decide

/-- The Return Map of section 5.8 as far as it is followed. -/
def mapped : Slot :=
  returnAt 1 5 { requesterId := 0x2300, tag := 0x12, bytesRequested := 512, bytesOwed := 512, expiry := 300010 }
    (returnAt 0 2 { requesterId := 0x2300, tag := 0x11, bytesRequested := 128, bytesOwed := 128, expiry := 300000 } inService)

/-- Section 5.8, ticks 200,050 and 200,070: A's answer frees entry 0 at generation 3; half of B leaves 256 bytes owed. -/
theorem test_host_completion :
    let t := ran (.hostCompletion (answered 672 128 0 32)) (only 5 mapped)
    (t.slots[5]).rmap[0] = { gen := 3, body := none } ∧
      (t.slots[5]).port.outbound = [.completion { answered 0x11 128 0 32 with requesterId := 0x2300 }] ∧
      (((ran (.hostCompletion (answered 721 512 0 64)) (only 5 mapped)).slots[5]).rmap[1]).body.map (·.bytesOwed) =
        some 256 := by decide

/-- Section 5.7: tag 115 names slot 0, and without an OPEN entry the completion is stale. -/
theorem test_host_completion_stale :
    ((ran (.hostCompletion (answered 115 4 0 1)) (only 5 mapped)).slots[0]).ctr.staleReturns = 1 := by decide

/-- R23: once an entry is FREE, the request that waited opens it and the credits are granted again. -/
theorem test_waiting_host_request_retaken :
    let t := ran .waitingHostRequestRetaken
      { mixed with hostQueue := [.known (.memRead (memory 0xE0001000 1 0xF 0))], withheld := some 0 }
    (t.slots[0]).trk.age = [0] ∧ t.hostQueue = [] ∧ t.withheld = none := by decide

/-! ### Card traffic -/

/-- Section 2.9, events 2 and 3: 126 bytes in 32 dwords, byte count 252, lower address 0x02, and 126 bytes stay owed; then
the overrun: byte count 126, lower address 0, 32 dwords; A = 6, B = 126, C = 130. -/
theorem test_card_completion :
    let s := fun owed => only 3 (openAt 6 3 (body (.memRead 0xE0002002) 252 owed 0 2001) inService)
    let t := ran (.cardCompletion 3 (answered 102 252 2 32)) (s 252)
    let u := ran (.cardCompletion 3 (answered 102 130 0 33)) (s 126)
    sentCompletions t = [(.success, 252, 2, 32)] ∧ ((t.slots[3]).trk.ort[6]).body.map (·.bytesOwed) = some 126 ∧
      sentCompletions u = [(.success, 126, 0, 32)] ∧ (u.slots[3]).trk.ort[6] = { gen := 4, body := none } ∧
      (u.slots[3]).ctr.overruns = 1 ∧
      filed u 3 0 = (1, some .overrunCompletion, .none, [some 6, some 126, some 130]) := by decide +kernel

/-- Section 5.8, tick 200,000: tag 672, and the lifetime expiry tick is 300,000. -/
theorem test_card_mem_read :
    let sl := { inService with rmap := inService.rmap.set 0 { gen := 2, body := none } }
    let r := { memory 0x1000 32 0xF 0xF with requesterId := 0x2300, tag := 0x11 }
    let t := ran (.cardMemRead 5 r) (atTick 200000 (only 5 sl))
    t.wires.upstream = [.memRead { r with requesterId := 0, tag := 672 }] ∧
      ((t.slots[5]).rmap[0]).body.map (·.expiry) = some 300000 := by decide

/-- Section 1.6: a MEM_WRITE goes upstream in ACTIVE; in FENCED it is dropped and counted (R15). -/
theorem test_card_mem_write :
    (ran (.cardMemWrite 0 (memory 0x1000 1 0xF 0) [5]) mixed).wires.upstream = [.memWrite (memory 0x1000 1 0xF 0) [5]] ∧
      ((ran (.cardMemWrite 1 (memory 0x1000 1 0xF 0) [5]) mixed).slots[1]).ctr.cardTrafficDropped = 1 := by decide

/-- R67: the message goes up, FATAL_MESSAGE is filed with the requester id and 1, and the slot fences. -/
theorem test_card_message :
    let t := ran (.cardMessage 0 { cls := .errorFatal, requesterId := 0x1000 }) mixed
    t.wires.upstream = [.message { cls := .errorFatal, requesterId := 0x1000 }] ∧
      filed t 0 0 = (1, some .fatalMessage, .none, [some 0x1000, some 1, none]) ∧ (t.slots[0]).cu.st = .fenced ∧
      (t.slots[0]).cu.cause = .fatalMessage := by decide

/-- R6, R15: answered UNSUPPORTED toward the card. -/
theorem test_card_config_request :
    ((ran (.cardConfigRequest 0 9 8 true) mixed).slots[0]).port.outbound =
      [.answer { refused 8 .unsupported with requesterId := 9 }] := by decide

/-- R89: the read that waits at the port opens the FREE entry. -/
theorem test_card_read_handover :
    let sl := { inService with port := { inService.port with waitingRead := some (memory 0x1000 16 0xF 0xF) } }
    let t := ran (.cardReadHandover 5) (only 5 sl)
    (t.slots[5]).port.waitingRead = none ∧ ((t.slots[5]).rmap[0]).body.map (·.bytesOwed) = some 64 := by decide

/-! ### Slot Ports -/

/-- R99, R100: the eighth reading of PRESENT is accepted. -/
theorem test_presence_sample :
    let sl := { Slot.reset with port := { SlotPort.reset with runCount := 7 } }
    let t := ran (.presenceSample 0 .present) (only 0 sl)
    (t.slots[0]).cu.st = .offline ∧ (t.slots[0]).port.accepted = .present ∧
      filed t 0 0 = (1, some .cardPresent, .none, [none, none, none]) := by decide

/-- R101, section 6.6: the eighth reading of ABSENT empties the slot. -/
theorem test_presence_sample_removal :
    let sl := { inService with port := { inService.port with runCount := 7 } }
    let t := ran (.presenceSample 0 .absent) (only 0 sl)
    (t.slots[0]).cu.st = .empty ∧ (t.slots[0]).port.line = .asserted ∧ (t.slots[0]).port.epoch = 1 ∧
      filed t 0 0 = (1, some .cardRemoved, .slotState .active, [some 0, some 0, some 0]) := by decide

/-- The slot of section 7.8 before its grant's hold expires, at a phase of its plan. -/
def slot3 (gen : BitVec 3) : Slot :=
  let sl := inState .recovering SlotSettings.default
  let record := (ContextStore.reset.records[0])
  let record0 := { record with state := 3, offset := 1, byteMask := 3, value := 0x00100146 }
  let record2 : RestoreRecord :=
    { state := 1, offset := 4, byteMask := 0xF, value := 0xE0400000, verify := 1, verifyMask := 0xFFFFF000, delay := 2,
      serial := 0 }
  let header := { ContextStore.reset.header with identityValid := 1, identity := 0x12345A47 }
  freeAt 0 gen { sl with
    attempt := 1, port := { sl.port with epoch := 8 },
    ctx := { header := header, records := (ContextStore.reset.records.set 0 record0).set 2 record2 } }

def training (sl : Slot) : Slot := { sl with port := { sl.port with link := .training } }

def inReset (sl : Slot) : Slot := { sl with port := { sl.port with link := .down, line := .asserted } }

/-- Section 7.8, tick 1,042,000: SETTLING, the identity read under tag 160, settle limit 2,042,000. -/
theorem test_link_up :
    let t := ran (.linkUp 3) (atTick 1042000 (withPlan { planIn 3 .training with trainLimit := some 1110000 }
      (only 3 (training (slot3 5)))))
    t.plan.map (·.phase) = some .settling ∧ t.plan.bind (·.settleLimit) = some 2042000 ∧
      t.plan.bind (·.trainLimit) = none ∧
      (t.slots[3]).port.outbound = [.request (.cfgRead { config .localForm 0 0 0 with requesterId := 0, tag := 160 })] := by
  decide

/-- R66, R105, section 4.11: the fence ends FENCED with cause LINK_DOWN in the one event. -/
theorem test_link_loss :
    let t := ran (.linkLoss 6) (atTick 9 (only 6 (openAt 0 0 read64 inService)))
    (t.slots[6]).cu.st = .fenced ∧ (t.slots[6]).cu.cause = .linkDown ∧ sentCompletions t = [(.success, 64, 0, 16)] ∧
      filed t 6 1 = (2, some .fenceComplete, .cause .linkDown, [some 1, some 1, some 0]) := by decide

/-- R17: packets leave in order. -/
theorem test_outbound_buffer_drain :
    let m : HostMessage := { cls := .other, requesterId := 1, routing := .broadcast }
    let sl := { inService with port := { inService.port with outbound := [.message m, .answer (refused 0 .abort)] } }
    let t := ran (.outboundBufferDrain 6 1) (only 6 sl)
    t.wires.downstream[6] = [.message m] ∧ (t.slots[6]).port.outbound = [.answer (refused 0 .abort)] := by decide

/-! ### Expiries and fences -/

/-- Section 3.8, tick 1,501: one stand-in of 32 bytes, answered count 1, A = 0, B = 32, C = 501. -/
theorem test_deadline_expiry :
    let f := { SlotSettings.default with windowReadUs := 500, timeoutAction := 1, timeoutTolerance := 3 }
    let b := body (.memRead 0x1000) 32 32 1000 1501
    let t := ran (.deadlineExpiry 6 0) (atTick 1501 (only 6 (openAt 1 0 b (openAt 0 0 b (inState .active f)))))
    sentCompletions t = [(.success, 32, 0, 8)] ∧ (t.slots[6]).trk.answered = 1 ∧ (t.slots[6]).cu.triggers = [] ∧
      (t.slots[6]).trk.ort[0] = { gen := 1, body := none } ∧
      filed t 6 0 = (1, some .requestTimeout, .upstream, [some 0, some 32, some 501]) := by decide

/-- R49, R51: a held read is answered for its full bytes and reported with index 32 and reason HELD. -/
theorem test_held_item_expiry :
    let t := ran (.heldItemExpiry 6 0) (atTick 2001 (only 6 (full 1)))
    (t.slots[6]).trk.hold = [] ∧ sentCompletions t = [(.success, 64, 0, 16)] ∧
      filed t 6 0 = (1, some .requestTimeout, .held, [some 32, some 64, some 2001]) := by decide

/-- R50, R129: the identity read of attempt 1 expires: REQUEST_TIMEOUT, ATTEMPT_FAILED, and attempt 2 after 10 ms. -/
theorem test_controller_entry_expiry :
    let b := { body (.cfgRead 0 true) 4 4 1042000 1052001 with origin := .controller .plan }
    let t := ran (.controllerEntryExpiry 3 0) (atTick 1052001 (withPlan (planIn 3 .settling) (only 3 (openAt 0 5 b (slot3 5)))))
    filed t 3 0 = (1, some .requestTimeout, .controller, [some 0, some 4, some 10001]) ∧
      filed t 3 1 = (2, some .attemptFailed, .requestTimeout, [some 1, none, none]) ∧
      t.queue[3] = some { level := .routine, attempt := 2, earliest := 1062001, eligible := false } := by decide

/-- Section 3.9, tick 17,096: STALL with A = 2, B = 0, C = 128. -/
theorem test_progress_watch_expiry :
    let sl := openAt 1 0 (body (.memRead 0) 256 256 11000 31002) (openAt 0 0 (body (.memRead 0) 256 128 10000 30002) inService)
    let t := ran (.progressWatchExpiry 2) (atTick 17096 (only 2 { sl with trk := { sl.trk with watch := .armed 17096 } }))
    filed t 2 0 = (1, some .stall, .none, [some 2, some 0, some 128]) ∧ (t.slots[2]).trk.watch = .expired ∧
      (t.slots[2]).cu.triggers = [{ cause := .stall, period := 1 }] := by decide

/-- The slot of section 4.10, in a state. -/
def slot1 (st : SlotState) : Slot :=
  openAt 12 1 (body (.memRead 0x2000) 64 64 0 60000) (openAt 7 0 (body (.cfgRead 0x10 true) 4 4 0 60000)
    (openAt 3 2 (body (.memRead 0xE0400040) 800 680 0 60000) (inState st { SlotSettings.default with
      graceUs := 100, standinMode := 1, autoRecover := 1 })))

/-- Section 4.10, tick 50,000: FENCING with the grace running to 50,100. -/
theorem test_fence_trigger :
    let sl := slot1 .active
    let t := ran (.fenceTrigger 1) (atTick 50000 (only 1 { sl with cu := { sl.cu with
      triggers := [{ cause := .stall, period := 1 }] } }))
    (t.slots[1]).cu.st = .fencing ∧ (t.slots[1]).cu.grace = some 50100 ∧ (t.slots[1]).cu.cause = .stall ∧
      (t.slots[1]).cu.triggers = [] := by decide

/-- Section 4.10, tick 50,100: entry 3's four completions of 18, 64, 64 and 24 dwords and entry 7's one; A = 5, B = 2,
C = 100; the slot is granted its recovery by the idle sequencer. -/
theorem test_grace_expiry :
    let sl := slot1 .fencing
    let open2 := { sl with
      cu := { sl.cu with cause := .stall, grace := some 50100, tally := { start := 50000, completions := 0, requests := 0 } },
      trk := { sl.trk with ort := sl.trk.ort.set 12 { gen := 2, body := none }, age := [3, 7] } }
    let t := ran (.graceExpiry 1) (atTick 50100 (only 1 open2))
    sentCompletions t = [(.success, 680, 0x38, 18), (.success, 608, 0, 64), (.success, 352, 0, 64), (.success, 96, 0, 24),
        (.success, 4, 0, 1)] ∧
      filed t 1 0 = (1, some .fenceComplete, .cause .stall, [some 5, some 2, some 100]) ∧
      (t.slots[1]).cu.st = .recovering := by decide

/-- R95: the entry is freed, and RETURN_EXPIRED with reason PARTIAL names it. -/
theorem test_return_lifetime_expiry :
    let b : ReturnBody := { requesterId := 0x2300, tag := 0x12, bytesRequested := 512, bytesOwed := 256, expiry := 300010 }
    let t := ran (.returnLifetimeExpiry 5 1) (atTick 300010 (only 5 (returnAt 1 5 b inService)))
    (t.slots[5]).rmap[1] = { gen := 6, body := none } ∧
      filed t 5 0 = (1, some .returnExpired, .partly, [some 1, some 256, some 0x12]) := by decide

/-! ### The Recovery Sequencer -/

/-- Section 11.2, tick 290,000: granted; the hold of attempt 2 ends at 310,000; epoch 6. -/
theorem test_earliest_start_reached :
    let sl := inState .recovering SlotSettings.default
    let t := ran (.earliestStartReached 0) (queued 0 .routine 2 290000 false (atTick 290000
      (only 0 { sl with attempt := 2, port := { sl.port with epoch := 5 } })))
    t.plan.bind (·.holdTick) = some 310000 ∧ (t.slots[0]).port.epoch = 6 ∧ t.queue[0] = none := by decide

/-- Section 11.3, tick 531,200: slots 1 and 6 are both eligible, and slot 1 is granted: hold 541,200. -/
theorem test_plan_grant :
    let sl := inReset (inState .recovering SlotSettings.default)
    let t := ran .planGrant (queued 6 .routine 2 520000 true (queued 1 .routine 1 515000 true (atTick 531200
      (put 6 sl (only 1 sl)))))
    t.plan.map (·.slot) = some 1 ∧ t.plan.bind (·.holdTick) = some 541200 ∧ (t.slots[1]).port.epoch = 0 := by decide

/-- Section 7.8, tick 1,010,000: the line is released, TRAINING, train limit 1,110,000. -/
theorem test_hold_tick_expiry :
    let t := ran .holdTickExpiry (atTick 1010000 (withPlan { planIn 3 .resetHold with holdTick := some 1010000 }
      (only 3 (inReset (slot3 5)))))
    (t.slots[3]).port.line = .released ∧ (t.slots[3]).port.link = .training ∧ t.plan.map (·.phase) = some .training ∧
      t.plan.bind (·.trainLimit) = some 1110000 := by decide

/-- R119, R128: ATTEMPT_FAILED with reason TRAIN_TIMEOUT. -/
theorem test_train_limit_expiry :
    let t := ran .trainLimitExpiry (atTick 1110000 (withPlan { planIn 3 .training with trainLimit := some 1110000 }
      (only 3 (training (slot3 5)))))
    filed t 3 0 = (1, some .attemptFailed, .trainTimeout, [some 1, none, none]) ∧ t.plan = none := by decide

/-- Section 11.2, tick 280,000: SETTLE_TIMEOUT, and attempt 2 at 290,000. -/
theorem test_settle_limit_expiry :
    let t := ran .settleLimitExpiry (atTick 280000 (withPlan
      { planIn 3 .settling with settleLimit := some 280000, retryTick := some 280600 } (only 3 (slot3 5))))
    filed t 3 0 = (1, some .attemptFailed, .settleTimeout, [some 1, none, none]) ∧ (t.slots[3]).attempt = 2 ∧
      t.queue[3] = some { level := .routine, attempt := 2, earliest := 290000, eligible := false } := by decide

/-- Section 7.8, tick 1,043,300: the identity read again, under tag 192. -/
theorem test_retry_tick_expiry :
    let t := ran .retryTickExpiry (atTick 1043300 (withPlan { planIn 3 .settling with retryTick := some 1043300 }
      (only 3 (slot3 6))))
    (t.slots[3]).port.outbound = [.request (.cfgRead { config .localForm 0 0 0 with requesterId := 0, tag := 192 })] := by
  decide

/-- Section 7.8, ticks 1,042,300 and 1,043,350: NOT_READY sets the retry tick 1,043,300; the identity agrees, and record 0
is written under tag 224. -/
theorem test_card_completion_to_the_plan :
    let b := fun (issued : Tick) => { body (.cfgRead 0 true) 4 4 issued (issued + 10001) with origin := .controller .plan }
    let c : Completion := { answered 192 4 0 1 with data := [0x12345A47] }
    let t := ran (.cardCompletion 3 (refused 160 .notReady)) (atTick 1042300 (withPlan
      { planIn 3 .settling with settleLimit := some 2042000 } (only 3 (openAt 0 5 (b 1042000) (slot3 5)))))
    let u := ran (.cardCompletion 3 c) (atTick 1043350 (withPlan (planIn 3 .settling)
      (only 3 (openAt 0 6 (b 1043300) (slot3 6)))))
    (t.slots[3]).trk.ort[0] = { gen := 6, body := none } ∧ t.plan.bind (·.retryTick) = some 1043300 ∧
      u.plan.map (·.phase) = some .restoring ∧ u.plan.map (·.cursor) = some 0 ∧
      (u.slots[3]).port.outbound =
        [.request (.cfgWrite { config .localForm 0 0 1 with requesterId := 0, tag := 224, enables := 3 } 0x00100146)] := by
  decide

/-- Section 7.8, tick 1,043,700: ACTIVE, and RECOVERED with A = 1, B = 2, C = 43,700. -/
theorem test_delay_tick_expiry :
    let t := ran .delayTickExpiry (atTick 1043700 (withPlan
      { planIn 3 .restoring with delayTick := some 1043700, cursor := 2, written := 2 } (only 3 (slot3 2))))
    (t.slots[3]).cu.st = .active ∧ (t.slots[3]).attempt = 0 ∧ t.plan = none ∧
      filed t 3 0 = (1, some .recovered, .none, [some 1, some 2, some 43700]) := by decide

/-- R125, R130: with the attempts used up the slot is RETIRED, and ATTEMPT_FAILED names the record. -/
theorem test_retry_limit_expiry :
    let t := ran .retryLimitExpiry (atTick 2000000 (withPlan
      { planIn 3 .restoring with attempt := 3, cursor := 2, retryLimit := some 2000000 } (only 3 { slot3 2 with attempt := 3 })))
    filed t 3 0 = (1, some .attemptFailed, .settleTimeout, [some 3, some 2, none]) ∧ (t.slots[3]).cu.st = .retired ∧
      (t.slots[3]).port.line = .asserted := by decide

/-! ### Tables of the manual -/

/-- Section 3.3: the windows of the five cases. -/
theorem test_worked_windows :
    windowUs 2000 128 16 2 40000 = 8012 ∧ windowUs 65535 1024 255 3 40000 = 40000 ∧ windowUs 1 1 0 0 40000 = 16 ∧
      windowUs 2000 16 16 0 40000 = 2001 ∧ windowUs 10000 1 16 0 40000 = 10001 := by decide

/-- Section 5.7: upstream tags. -/
theorem test_worked_tags :
    upstreamTag 0 0 0 = 0 ∧ upstreamTag 0 7 3 = 115 ∧ upstreamTag 5 1 2 = 658 ∧ upstreamTag 5 5 1 = 721 ∧
      upstreamTag 7 7 15 = 1023 := by decide

/-- Section 3.1: an unreached deadline across the wrap is reached when NOW arrives at it. -/
theorem test_deadline_across_the_wrap :
    reached 4294963500 4216 = false ∧ reached 4215 4216 = false ∧ reached 4216 4216 = true := by decide

/-- Section 10.3.1: the first incident of an enabled bit sends a message, a second none, and a full list counts a miss. -/
theorem test_incident_list :
    let s := { only 0 inService with
      attnEnable := 0xFFFFFF, mgmt := { ManagementFunction.powerOn with msiEnabled := true } }
    let fatal : Instr := .cardMessage 0 { cls := .errorFatal, requesterId := 1 }
    let t := ran fatal { s with attn := 0x000002 }
    let listFull := { inService with inc := { inService.inc with
      records := Vector.replicate 8 { IncidentRecord.reset with filled := true } } }
    (ran fatal s).wires.upstream.length = 2 ∧ t.wires.upstream.length = 1 ∧
      ((ran fatal (put 0 listFull s)).slots[0]).inc.missed = 2 ∧ (ran fatal (put 0 listFull s)).incidentSerial = 2 := by decide

/-! ### Witnesses: for each statement with hypotheses, states and operands that meet them -/

/-- A queue without entries has none eligible. -/
theorem noneEligible_of_empty (s : State) (h : ∀ k : SlotId, s.queue[k] = none) : NoneEligible s := by
  intro k e he
  rw [h k] at he
  cases he

theorem others_of_empty (s : State) (i : SlotId) (h : ∀ k : SlotId, k ≠ i → s.queue[k] = none) : OthersWait s i := by
  intro k hk e he
  rw [h k hk] at he
  cases he

theorem lowestFree_of (sl : Slot) (k : Fin 32) (h : sl.trk.lowestFree = some k) : LowestFree sl k :=
  (lowestFree_eq_some sl k).mp h

theorem lowestFreeReturn_of (sl : Slot) (k : Fin 16) (h : sl.lowestFreeReturn = some k) : LowestFreeReturn sl k :=
  (lowestFreeReturn_eq_some sl k).mp h

theorem noPlanRequest_of (sl : Slot) (h : ∀ k : Fin 32, (sl.trk.ort[k]).body = none) (hw : sl.trk.waiting = none) :
    NoPlanRequest sl := by
  constructor
  · intro k b hb
    rw [h k] at hb
    cases hb
  · intro c hc
    rw [hw] at hc
    cases hc

def fenced : Slot := inState .fenced SlotSettings.default

def linkDown (sl : Slot) : Slot := { sl with port := { sl.port with link := .down } }

theorem witness_StepTakesTheFrontCommand :
    { State.reset with pending := [Instr.planGrant, .applyDevice] }.pending = Instr.planGrant :: [.applyDevice] := rfl

/-- A cancel is due; after reset nothing is due. -/
theorem witness_StepOnAnEmptyQueue :
    (only 7 { Slot.reset with ou := { OrderUnit.reset with cancel := true } }).nextDue = some (.cancelTaken 7) ∧
      State.reset.nextDue = none ∧ State.reset.pending = [] := by decide

theorem witness_HierarchyResetOfSlots : mixed.withheld = none := rfl

theorem witness_ResetForms :
    let q : NonPosted := .memRead (memory 0xE0001000 1 0xF 0)
    let s := { mixed with hostQueue := [.known q], withheld := some 0 }
    mixed.withheld = none ∧ s.withheld = some 0 ∧ s.hostQueue = [.known q] ∧ s.target (.known q) = .slot 0 := by decide

theorem witness_UpstreamOnlyGrows : ∃ t, exec (.hostCfgRead (config .routedForm 0x12 0 4)) mixed = .next t := ⟨_, rfl⟩

theorem witness_CellWrites :
    let w : CellWrite := { owner := some 2, code := some 5, numberLow := none, numberHigh := none, priority := none,
                           other := false }
    let held := only 7 (withOrder 4 .fenced inService)
    (mixed.slots[0]).ou.cell.owner = .software ∧ w.owner ≠ some 1 ∧ (held.slots[7]).ou.cell.owner = .controller ∧
      writesOrderCell 7 (.orderCellWrite 7 w) = true ∧ writesOrderCell 7 (.orderLift 7 0 0) = true := by decide

/-- The first and the last byte of each region, and that no byte is in two. -/
theorem witness_WindowWrites :
    (storedCell 0x120 && storedCell 0x125 && storedCell 0x1040 && storedCell 0x1069 && storedCell 0x8240 &&
      storedCell 0x8242 && storedCell 0x824B && storedCell 0x1260 && storedCell 0x865F) = true ∧
      (discardedCell 0x008 && discardedCell 0x11F && discardedCell 0x126 && discardedCell 0xFFF && discardedCell 0x1011 &&
        discardedCell 0x103F && discardedCell 0x1061 && discardedCell 0x106A && discardedCell 0x113F &&
        discardedCell 0x1141 && discardedCell 0x823F && discardedCell 0x8241 && discardedCell 0x825F &&
        discardedCell 0x8660 && discardedCell 0x9000 && discardedCell 0xFFFF) = true := by decide

theorem witness_WindowWrites_disjoint (a : Nat) : ¬ (storedCell a = true ∧ discardedCell a = true) := by
  simp only [storedCell, discardedCell, inPage, Bool.or_eq_true, Bool.and_eq_true, decide_eq_true_eq, bne_iff_ne,
    beq_iff_eq, Bool.not_eq_true', Bool.and_eq_false_iff, decide_eq_false_iff_not]
  omega

theorem witness_OrdersEndedAtOnce :
    (mixed.slots[0]).ou.cell.owner = .software ∧ unknownOrderCode 0 = true ∧ unknownOrderCode 8 = true ∧
      unknownOrderCode 255 = true ∧ refusedIn .capture (mixed.slots[1]).cu.st = true ∧
      refusedIn .fence (mixed.slots[3]).cu.st = true ∧ refusedIn .recover (mixed.slots[3]).cu.st = true ∧
      refusedIn .lift (mixed.slots[0]).cu.st = true ∧ refusedIn .retire (mixed.slots[3]).cu.st = true ∧
      refusedIn .reinstate (mixed.slots[0]).cu.st = true ∧
      (mixed.slots[1]).cu.st = .fenced ∧ (mixed.slots[1]).ou.cell.owner = .software ∧
      ((only 1 (inState .retired SlotSettings.default)).slots[1]).cu.st = .retired ∧
      ((only 1 (inState .retired SlotSettings.default)).slots[1]).ou.cell.owner = .software := by decide

/-- A slot whose routing changes in OFFLINE, and a locked slot whose routing stays. -/
theorem witness_ApplyTakesSettings :
    let sl := inState .offline SlotSettings.default
    let s := put 3 { sl with cells := routing 0xE2000000 0xE2FFFFFF 0x20 0x2F } mixed
    ((s.slots[3]).ou.cell.owner = .software ∧ (s.slots[3]).cu.st ≠ .active ∧ (s.slots[3]).cu.st ≠ .fencing ∧
      (s.slots[3]).cu.st ≠ .recovering ∧
      ∀ k : SlotId, k ≠ 3 → overlaps (windowOf (s.slots[3]).cells) (windowOf (s.slots[k]).inForce) = false ∧
        overlaps (busRangeOf (s.slots[3]).cells) (busRangeOf (s.slots[k]).inForce) = false) ∧
    ((s.slots[0]).ou.cell.owner = .software ∧ (s.slots[0]).cu.st = .active ∧
      windowOf (s.slots[0]).cells = windowOf (s.slots[0]).inForce ∧
      busRangeOf (s.slots[0]).cells = busRangeOf (s.slots[0]).inForce ∧
      ∀ k : SlotId, k ≠ 0 → overlaps (windowOf (s.slots[0]).cells) (windowOf (s.slots[k]).inForce) = false ∧
        overlaps (busRangeOf (s.slots[0]).cells) (busRangeOf (s.slots[k]).inForce) = false) := by decide

theorem witness_ApplyRefused :
    let s := put 0 { (mixed.slots[0]) with cells := routing 0xE0000000 0xE0FFEFFF 0x10 0x10 } mixed
    let ask := fun (c : SlotSettings) => put 3 { inState .offline SlotSettings.default with cells := c } mixed
    let t := ask (routing 0xE13FF000 0xE2FFFFFF 0x20 0x2F)
    let u := ask (routing 0xE2000000 0xE2FFFFFF 0x14 0x2F)
    ((s.slots[0]).ou.cell.owner = .software ∧ (s.slots[0]).cu.st = .active ∧
      windowOf (s.slots[0]).cells ≠ windowOf (s.slots[0]).inForce) ∧
    ((t.slots[3]).ou.cell.owner = .software ∧ (t.slots[3]).cu.st = .offline ∧
      overlaps (windowOf (t.slots[3]).cells) (windowOf (t.slots[1]).inForce) = true ∧
      ∀ j : SlotId, j < 1 → overlaps (windowOf (t.slots[3]).cells) (windowOf (t.slots[j]).inForce) = false) ∧
    ((u.slots[3]).cu.st = .offline ∧
      (∀ j : SlotId, j ≠ 3 → overlaps (windowOf (u.slots[3]).cells) (windowOf (u.slots[j]).inForce) = false) ∧
      overlaps (busRangeOf (u.slots[3]).cells) (busRangeOf (u.slots[2]).inForce) = true ∧
      ∀ j : SlotId, j < 2 → overlaps (busRangeOf (u.slots[3]).cells) (busRangeOf (u.slots[j]).inForce) = false) := by decide

theorem witness_CaptureStarts :
    inService.ou.cell.owner = .software ∧ inService.cu.st = .active ∧ LowestFree inService 0 ∧
      (full 0).ou.cell.owner = .software ∧ (full 0).cu.st = .active ∧ ∀ k : Fin 32, ((full 0).trk.ort[k]).body ≠ none :=
  ⟨rfl, rfl, lowestFree_of _ _ (by decide), rfl, rfl, by decide⟩

theorem witness_OrdersAgainstAFence :
    inService.ou.cell.owner = .software ∧ inService.cu.st = .active ∧
      (slot1 .fencing).ou.cell.owner = .software ∧ (slot1 .fencing).cu.st = .fencing := by decide

/-- A join while slot 2's plan is in SETTLING, by an idle sequencer, at ROUTINE and at URGENT beside slot 2's plan in
TRAINING. -/
theorem witness_RecoverFromRest :
    let s := withPlan (planIn 2 .training) (only 5 fenced)
    fenced.ou.cell.owner = .software ∧ fenced.cu.st = .fenced ∧ (inState .offline SlotSettings.default).cu.st = .offline ∧
      PlanRunsOn (withPlan (planIn 2 .settling) (only 5 fenced)) ∧ (mixed.plan = none ∧ OthersWait mixed 3) ∧
      orderLevel 1 fenced.inForce = .routine ∧ orderLevel 2 fenced.inForce = .urgent ∧ s.plan = some (planIn 2 .training) ∧
      OthersWait s 5 ∧ (planIn 2 .training).level = .routine ∧ (planIn 2 .training).stop = false ∧
      (planIn 2 .training).slot ≠ 5 :=
  ⟨rfl, rfl, rfl, ⟨_, rfl, Or.inr (Or.inl rfl)⟩, ⟨rfl, others_of_empty _ 3 (by decide)⟩, by decide, by decide, rfl,
    others_of_empty _ 5 (by decide), rfl, rfl, by decide⟩

/-- An adoption: of an entry that waits, of one that is eligible beside slot 2's plan in TRAINING, of the current plan. -/
theorem witness_RecoverFromRest_adopted :
    let sl := { fenced with cu := { fenced.cu with st := .recovering } }
    let waits := queued 5 .routine 2 90 false (only 5 sl)
    let s := queued 5 .routine 1 0 true (withPlan (planIn 2 .training) (only 5 sl))
    let e : QueueEntry := { level := .routine, attempt := 1, earliest := 0, eligible := true }
    sl.ou.cell.owner = .software ∧ sl.cu.st = .recovering ∧ waits.queue[5].isSome = true ∧ NoneEligible waits ∧
      s.queue[5] = some e ∧ e.eligible = true ∧ s.plan = some (planIn 2 .training) ∧ OthersWait s 5 ∧
      (withPlan (planIn 5 .training) (only 5 sl)).queue[5] = none ∧ (planIn 5 .training).slot = 5 := by
  refine ⟨rfl, rfl, by decide, fun k e he => ?_, by decide, rfl, rfl, others_of_empty _ 5 (by decide), by decide, rfl⟩
  have h := (by decide : ∀ k : SlotId, ((queued 5 .routine 2 90 false (only 5 inService)).queue[k]).all
    (fun e => !e.eligible && !reached 0 e.earliest) = true) k
  have h' : (some e).all (fun e : QueueEntry => !e.eligible && !reached 0 e.earliest) = true := he ▸ h
  have hw : e.eligible = false ∧ reached 0 e.earliest = false := by simpa using h'
  exact hw

theorem witness_LiftReturnsToService :
    fenced.ou.cell.owner = .software ∧ fenced.cu.st = .fenced ∧ fenced.port.link = .up ∧
      (linkDown fenced).ou.cell.owner = .software ∧ (linkDown fenced).cu.st = .fenced ∧ (linkDown fenced).port.link ≠ .up ∧
      (training fenced).port.link ≠ .up := by decide

theorem witness_RetireFromRest : fenced.ou.cell.owner = .software ∧ fenced.cu.st = .fenced ∧ fenced.Quiet :=
  ⟨rfl, rfl, by unfold Slot.Quiet; decide⟩

def planBody : OrtBody := { body (.cfgRead 0 true) 4 4 1042000 1052001 with origin := .controller .plan }

/-- A slot whose plan's read is OPEN in entry 0. -/
theorem planRequestEnded_of_open : PlanRequestEnded (openAt 0 5 planBody (slot3 5))
    ((openAt 0 5 planBody (slot3 5)).trk.withFreed 0) :=
  ⟨rfl, Or.inr (Or.inl ⟨0, planBody, by decide, rfl, by decide, rfl, rfl, rfl⟩)⟩

/-- RECOVERING: QUEUED beside slot 2's plan, and the current plan with its read OPEN, waiting, and not issued. -/
theorem witness_RetireFromRest_recovering :
    let s := queued 3 .routine 1 0 true (withPlan (planIn 2 .settling) (only 3 (slot3 5)))
    let u := withPlan (planIn 3 .settling) (only 3 (openAt 0 5 planBody (slot3 5)))
    let waits := { slot3 5 with trk := { (slot3 5).trk with waiting := some { owner := .plan, offset := 0, write := none } } }
    (slot3 5).ou.cell.owner = .software ∧ (slot3 5).cu.st = .recovering ∧ (slot3 5).Quiet ∧ s.queue[3].isSome = true ∧
      (∀ p, s.plan = some p → p.slot ≠ 3) ∧ s.plan ≠ none ∧ u.plan = some (planIn 3 .settling) ∧
      (planIn 3 .settling).slot = 3 ∧ u.queue[3] = none ∧ NoneEligible u ∧
      PlanRequestEnded (openAt 0 5 planBody (slot3 5)) ((openAt 0 5 planBody (slot3 5)).trk.withFreed 0) ∧
      PlanRequestEnded waits (slot3 5).trk ∧ PlanRequestEnded (slot3 5) (slot3 5).trk :=
  ⟨rfl, rfl, by unfold Slot.Quiet; decide, by decide, fun p hp => by cases hp; decide, by decide, rfl, rfl, by decide,
    noneEligible_of_empty _ (by decide), planRequestEnded_of_open,
    ⟨rfl, Or.inr (Or.inr ⟨_, by decide, rfl, rfl, rfl, rfl⟩)⟩, ⟨rfl, Or.inl ⟨by unfold Slot.Quiet; decide, rfl⟩⟩⟩

theorem witness_ReinstateLeavesRetired :
    (inState .retired SlotSettings.default).ou.cell.owner = .software ∧
      (inState .retired SlotSettings.default).cu.st = .retired := by decide

/-- A slot whose latched cancel is to be taken, with an order in progress. -/
def cancelled (code : Byte) (st : SlotState) : Slot :=
  let sl := withOrder code .fenced (inState st SlotSettings.default)
  { sl with ou := { sl.ou with cancel := true } }

theorem witness_CancelOfAQueuedRecovery :
    let s := queued 5 .routine 1 400000 true (only 5 (cancelled 4 .recovering))
    (s.slots[5]).ou.order = some { code := 4, number := 0x31, level := .routine, taken := .fenced } ∧
      s.queue[5] = some { level := .routine, attempt := 1, earliest := 400000, eligible := true } ∧
      (s.slots[5]).ou.cancel = true ∧ (s.slots[5]).cu.st = .recovering := by decide

theorem witness_CancelOtherwise :
    let captured := openAt 0 0 { read64 with origin := .controller .capture } { cancelled 2 .active with
      capture := some { step := .identity, offsetInHand := 0, cursor := 0, recordsRead := 0, recordsFailed := 0,
                        firstFailed := 64, identityResult := .none, stop := false } }
    let s := withPlan (planIn 5 .training) (only 5 (cancelled 4 .recovering))
    fenced.ou.cancel = false ∧
      ((cancelled 3 .fencing).ou.cancel = true ∧ (cancelled 3 .fencing).ou.order.map (·.code) = some 3) ∧
      ((cancelled 4 .active).ou.order.map (·.code) = some 4 ∧ (cancelled 4 .active).cu.st = .active) ∧
      ((s.slots[5]).ou.order.map (·.code) = some 4 ∧ s.plan.map (·.slot) = some 5 ∧ s.queue[5] = none ∧
        (s.slots[5]).cu.st = .recovering) ∧
      (captured.ou.order.map (·.code) = some 2 ∧ captured.ou.cancel = true ∧ captured.capture.isSome = true ∧
        (captured.trk.ort[0]).body.map (·.origin) = some (.controller .capture)) := by decide

/-- A capture whose identity read waits, with all 32 entries OPEN for the host. -/
theorem witness_CancelOtherwise_waiting :
    let w : ControllerRequest := { owner := .capture, offset := 0, write := none }
    let sl := { cancelled 2 .active with
      trk := { (full 0).trk with waiting := some w },
      capture := some { step := .identity, offsetInHand := 0, cursor := 0, recordsRead := 0, recordsFailed := 0,
                        firstFailed := 64, identityResult := .none, stop := false } }
    sl.ou.order.map (·.code) = some 2 ∧ sl.ou.cancel = true ∧ sl.capture.isSome = true ∧ sl.trk.waiting = some w ∧
      w.owner = .capture ∧ ∀ k : Fin 32, (sl.trk.ort[k]).body.all (fun b => b.origin != .controller .capture) = true := by
  decide

def hostRead : NonPosted := .memRead (memory 0xE0001000 1 0xF 0)

/-- `mixed` with slot 0 full and `n` items held. -/
def mixedFull (n : Nat) : State :=
  put 0 { full n with inForce := routing 0xE0000000 0xE0FFFFFF 0x10 0x10 } mixed

theorem witness_HostRequestOpensEntry :
    mixed.hostQueue = [] ∧ mixed.target (.known hostRead) = .slot 0 ∧ (mixed.slots[0]).cu.st = .active ∧
      (mixed.slots[0]).trk.hold = [] ∧ LowestFree mixed.slots[0] 0 :=
  ⟨rfl, by decide, by decide, by decide, lowestFree_of _ _ (by decide)⟩

/-- The Hold Queue empty, with 7 items and with 8. -/
theorem witness_HostRequestWaits :
    (∀ n : Fin 9, (mixedFull n).hostQueue = [] ∧ (mixedFull n).target (.known hostRead) = .slot 0 ∧
      ((mixedFull n).slots[0]).cu.st = .active ∧ ((mixedFull n).slots[0]).trk.hold.length = n.val) ∧
      (∀ k : Fin 32, (((mixedFull 8).slots[0]).trk.ort[k]).body ≠ none) ∧
      (∀ k : Fin 32, (((mixedFull 0).slots[0]).trk.ort[k]).body ≠ none) ∧
      ({ mixed with hostQueue := [.known hostRead] } : State).hostQueue ≠ [] := by decide +kernel

theorem witness_HostRequestAnsweredByStandIns :
    mixed.hostQueue = [] ∧ mixed.target (.known (.memRead (memory 0xE13FFFFC 1 0xF 0))) = .slot 1 ∧
      (mixed.slots[1]).cu.st ≠ .active := by decide

theorem witness_UnroutedTraffic :
    mixed.hostQueue = [] ∧ mixed.target (.known (.memRead (memory 0xE1400000 1 0xF 0))) = .unrouted ∧
      mixed.target (.known (.cfgRead (config .routedForm 0x15 0 0))) = .unrouted ∧
      mixed.memTarget 0xDFFEFFFC = .unrouted ∧
      ∀ k : SlotId, inRange (busRangeOf (mixed.slots[k]).inForce) 0x15 = false := by decide

/-- Two ranges that do not overlap share no value. -/
theorem disjoint_of_overlaps {w : Nat} (r r' : Option (BitVec w × BitVec w)) (h : overlaps r r' = false) (a : BitVec w) :
    ¬ (inRange r a = true ∧ inRange r' a = true) := by
  match r, r' with
  | none, _ => simp [inRange]
  | some (_, _), none => simp [inRange]
  | some (lo, hi), some (lo', hi') =>
    simp only [overlaps, Bool.and_eq_false_iff, decide_eq_false_iff_not, BitVec.le_def] at h
    simp only [inRange, Option.any_some, Bool.and_eq_true, decide_eq_true_eq, BitVec.le_def]
    omega

theorem settings_mixed : SettingsInv mixed where
  windowsDisjoint i j hij :=
    disjoint_of_overlaps _ _ ((by decide : ∀ i j : SlotId, i ≠ j →
      overlaps (windowOf (mixed.slots[i]).inForce) (windowOf (mixed.slots[j]).inForce) = false) i j hij)
  busesDisjoint i j hij :=
    disjoint_of_overlaps _ _ ((by decide : ∀ i j : SlotId, i ≠ j →
      overlaps (busRangeOf (mixed.slots[i]).inForce) (busRangeOf (mixed.slots[j]).inForce) = false) i j hij)
  windows := by decide
  stretch := by decide
  watchPeriod := by decide
  tolerance := by decide
  attemptLimit := by decide
  hold := by decide
  grace := by decide
  trainLimit := by decide
  settleLimit := by decide
  settleRetry := by decide
  ceiling := by decide
  codes := by decide
  returnLimit := by decide

/-- The first and the last address of the BAR, and an address beside it. -/
theorem witness_Routing :
    SettingsInv mixed ∧ mixed.mgmt.bar = some 0xDFFF0000 ∧ (0xDFFF0000#64).toNat ≤ (0xDFFFFFFC#64).toNat ∧
      (0xDFFFFFFC#64).toNat < (0xDFFF0000#64).toNat + 65536 ∧
      ¬ ((0xE0000000#64).toNat < (0xDFFF0000#64).toNat + 65536) ∧ (config .localForm 0 0 0).form = .localForm ∧
      (config .routedForm 0x12 0 0).form = .routedForm :=
  ⟨settings_mixed, by decide⟩

theorem witness_HostPostedTraffic :
    mixed.memTarget 0xE0FFFFFC = .slot 0 ∧ inRange (busRangeOf (mixed.slots[1]).inForce) 0x13 = true ∧
      ∀ k : SlotId, k ≠ 1 → inRange (busRangeOf (mixed.slots[k]).inForce) 0x13 = false := by decide

/-- The first and the last dword of the BAR. -/
theorem witness_ControllerTraffic :
    mixed.hostQueue = [] ∧ mixed.barOffset 0xDFFF0000 = some 0 ∧ mixed.barOffset 0xDFFFFFFC = some 0xFFFC ∧
      (config .localForm 0 0 0).device = 0 ∧ (config .localForm 0 0 0).function = 0 := by decide

/-- A slot whose Return Map is full, its entry 0 with `owed` of 64 bytes left, and a card read that waits. -/
def returnFull (owed : Nat) (waiting : Option MemRequest) : Slot :=
  { inService with
    rmap := Vector.replicate 16 { gen := 7, body := some {
      requesterId := 0x2300, tag := 0x11, bytesRequested := 64, bytesOwed := owed, expiry := 5 } },
    port := { inService.port with waitingRead := waiting } }

theorem witness_HostCompletionForwarded :
    let b : ReturnBody := { requesterId := 0x2300, tag := 0x11, bytesRequested := 64, bytesOwed := 64, expiry := 5 }
    let r := memory 0x1000 16 0xF 0xF
    ((returnFull 64 none).rmap[0]).body = some b ∧ (returnFull 64 none).cu.st = .active ∧
      b.bytesOwed - min (bytesCarried (answered 0 64 0 15)) b.bytesOwed ≠ 0 ∧
      b.bytesOwed - min (bytesCarried (answered 0 64 0 16)) b.bytesOwed = 0 ∧ (refused 0 .abort).status ≠ .success ∧
      (returnFull 64 none).port.waitingRead = none ∧
      (∀ j : Fin 16, j ≠ 0 → ((returnFull 64 (some r)).rmap[j]).body ≠ none) ∧
      (returnFull 64 (some r)).port.waitingRead = some r := by decide

theorem witness_StaleReturns :
    (5 = (658#10).toNat / 128 ∧ ∀ j : Fin 16, (mapped.rmap[j]).body ≠ none → 658 ≠ upstreamTag 5 (mapped.rmap[j]).gen j) ∧
      (let sl := { mapped with cu := { mapped.cu with st := .fencing } }
       (sl.rmap[0]).body.isSome = true ∧ sl.cu.st ≠ .active ∧ sl.port.waitingRead = none) := by decide

theorem witness_WaitingRequestRetaken :
    (mixedFull 7).target (.known hostRead) = .slot 0 ∧ ((mixedFull 7).slots[0]).cu.st = .active ∧
      ((mixedFull 7).slots[0]).trk.hold.length < 8 ∧ ((mixedFull 8).slots[0]).trk.hold.length = 8 ∧
      (∀ k : Fin 32, (((mixedFull 8).slots[0]).trk.ort[k]).body ≠ none) ∧
      mixed.target (.known (.memRead (memory 0xE1000000 1 0xF 0))) = .slot 1 ∧ (mixed.slots[1]).cu.st ≠ .active := by
  decide +kernel

/-- Section 2.9, event 4: tag 102 when entry 6 is FREE, and tag 102 when it is OPEN at generation 4. -/
theorem witness_LateCompletion :
    (∀ k : Fin 32, (inService.trk.ort[k]).body ≠ none → 102 ≠ downstreamTag (inService.trk.ort[k]).gen k) ∧
      let sl := openAt 6 4 read64 inService
      ∀ k : Fin 32, (sl.trk.ort[k]).body ≠ none → 102 ≠ downstreamTag (sl.trk.ort[k]).gen k := by decide

theorem witness_CardCompletionForwarded :
    let sl := openAt 6 3 read64 inService
    (sl.trk.ort[6]).body = some read64 ∧ read64.origin.isUpstream = true ∧ sl.cu.st = .active ∧ sl.trk.hold = [] ∧
      sl.trk.waiting = none ∧ bytesCarried (answered 102 64 0 1) = 4 ∧ bytesCarried (answered 102 64 0 16) = 64 ∧
      bytesCarried (answered 102 64 0 15) < read64.bytesOwed ∧ (refused 102 .abort).data = [] ∧
      bytesCarried (answered 102 64 0 0) = 0 ∧ 1 ≤ read64.bytesOwed := by decide

/-- A slot in FENCING with its grace running, one entry OPEN, and another where `more`. -/
def fencing (more : Bool) (b : OrtBody) : Slot :=
  let sl := openAt 6 3 b (inState .fencing SlotSettings.default)
  let sl := { sl with cu := { sl.cu with grace := some 50100, cause := .stall } }
  if more then openAt 9 0 read64 sl else sl

/-- In FENCING with another entry OPEN, and as the last entry. -/
theorem witness_CardCompletionForwarded_fencing :
    ((fencing true read64).trk.ort[6]).body = some read64 ∧ (fencing true read64).cu.st = .fencing ∧
      ((fencing true read64).trk.ort[9]).body ≠ none ∧ ((fencing false read64).trk.ort[6]).body = some read64 ∧
      (fencing false read64).cu.st = .fencing ∧ (∀ j : Fin 32, j ≠ 6 → ((fencing false read64).trk.ort[j]).body = none) ∧
      (fencing false read64).cu.grace ≠ none ∧ (fencing false read64).StaysFenced :=
  ⟨by decide, rfl, by decide, by decide, rfl, by decide, by decide, rfl, Or.inl rfl⟩

theorem witness_OverrunCloses :
    let sl := openAt 6 3 read64 inService
    (sl.trk.ort[6]).body = some read64 ∧ read64.origin.isUpstream = true ∧ sl.cu.st = .active ∧ sl.trk.hold = [] ∧
      sl.trk.waiting = none ∧ carriesData read64.kind = true ∧ read64.bytesOwed < bytesCarried (answered 102 65 0 17) := by
  decide

theorem witness_ShadowUpdate :
    let b := body (.cfgWrite 4 true 0xE0800000 0xF) 0 0 0 10001
    let sl := openAt 0 0 b inService
    (sl.trk.ort[0]).body = some b ∧ b.bytesOwed = 0 ∧ b.origin = .upstream 0x0100 0x2A7 ∧ sl.cu.st = .active ∧
      sl.trk.hold = [] ∧ sl.trk.waiting = none := by decide

theorem witness_ShadowUpdate_fencing :
    let b := body (.cfgWrite 4 true 0xE0800000 0xF) 0 0 0 10001
    ((fencing true b).trk.ort[6]).body = some b ∧ (fencing true b).cu.st = .fencing ∧
      ((fencing true b).trk.ort[9]).body ≠ none ∧ (∀ j : Fin 32, j ≠ 6 → ((fencing false b).trk.ort[j]).body = none) ∧
      (fencing false b).cu.grace ≠ none ∧ (fencing false b).StaysFenced :=
  ⟨by decide, rfl, by decide, by decide, by decide, rfl, Or.inl rfl⟩

/-- A capture in service whose read stands in entry 0, over the records 0 and, where `more`, 63 for capture. -/
def capturing (step : CaptureStep) (more : Bool) : Slot :=
  let record : RestoreRecord :=
    { state := 4, byteMask := 0, offset := 1023, value := 0, verifyMask := 0, serial := 0, delay := 0, verify := 0 }
  let one := ContextStore.reset.records.set 0 record
  let b := { body (.cfgRead 0 true) 4 4 0 10001 with origin := .controller .capture }
  openAt 0 0 b { withOrder 2 .active inService with
    ctx := { ContextStore.reset with records := if more then one.set 63 { record with state := 2 } else one },
    capture := some { step := step, offsetInHand := 1023, cursor := 0, recordsRead := 0, recordsFailed := 0,
                      firstFailed := 64, identityResult := .read, stop := false } }

theorem witness_CaptureReads :
    let b := { body (.cfgRead 0 true) 4 4 0 10001 with origin := .controller .capture }
    let c := capturing (.record 0) true
    (c.trk.ort[0]).body = some b ∧ c.cu.st = .active ∧ c.trk.hold = [] ∧ c.trk.waiting = none ∧
      c.ou.cell.owner = .controller ∧ bytesCarried (answered 0 4 0 1) = 4 ∧
      LowestFree { c with trk := c.trk.withFreed 0 } 0 :=
  ⟨by decide, rfl, rfl, rfl, rfl, by decide, lowestFree_of _ _ (by decide)⟩

/-- No record for capture, one, the last, and one more at index 63. -/
theorem witness_CaptureReads_records :
    (∀ n : Fin 64, ¬ Reads ContextStore.reset.records[n]) ∧ FirstRecord Reads (capturing .identity false).ctx 0 0 ∧
      Reads ((capturing (.record 0) false).ctx.records[0]) ∧
      (∀ n : Fin 64, 0 < n → ¬ Reads (capturing (.record 0) false).ctx.records[n]) ∧
      FirstRecord Reads (capturing (.record 0) true).ctx 1 63 := by
  unfold FirstRecord Reads
  exact ⟨by decide, by decide, by decide, by decide, by decide⟩

theorem witness_CardReads :
    let r := memory 0x1000 16 0xF 0xF
    let waits := { inService with port := { inService.port with waitingRead := some r } }
    inService.port.waitingRead = none ∧ inService.cu.st = .active ∧ LowestFreeReturn inService 0 ∧
      LowestFreeReturn (returnAt 0 0 { requesterId := 0, tag := 0, bytesRequested := 4, bytesOwed := 4, expiry := 0 } waits) 1 ∧
      (∀ j : Fin 16, ((returnFull 64 (some r)).rmap[j]).body ≠ none) ∧ (returnFull 64 (some r)).port.waitingRead = some r ∧
      fenced.cu.st ≠ .active ∧ waits.port.waitingRead = some r :=
  ⟨rfl, rfl, lowestFreeReturn_of _ _ (by decide), lowestFreeReturn_of _ _ (by decide), by decide, rfl, by decide, rfl⟩

theorem witness_CardPostedTraffic :
    let f := { SlotSettings.default with fenceOnFatal := 0 }
    (inState .active f).cu.st = .active ∧ (inState .active f).inForce.fenceOnFatal = 0 ∧
      (inState .active f).port.waitingRead = none ∧ fenced.cu.st ≠ .active ∧ fenced.port.waitingRead = none ∧
      (returnFull 64 (some (memory 0x1000 16 0xF 0xF))).port.waitingRead = some (memory 0x1000 16 0xF 0xF) := by decide

theorem witness_FencesAtOnce :
    let auto := inState .active { SlotSettings.default with autoRecover := 1 }
    (linkDown inService).port.link ≠ .up ∧ (Idle (only 0 inService) 0 ∧ inService.port.link = .up ∧
        inService.inForce.autoRecover = 0 ∧ inService.inForce.fenceOnFatal ≠ 0) ∧
      Idle (withPlan (planIn 1 .settling) (only 0 auto)) 0 ∧ auto.inForce.autoRecover ≠ 0 ∧
      PlanRunsOn (withPlan (planIn 1 .settling) (only 0 auto)) :=
  ⟨by decide, ⟨by unfold Idle Slot.Quiet; decide, by decide⟩, by unfold Idle Slot.Quiet; decide, by decide,
    _, rfl, Or.inr (Or.inl rfl)⟩

theorem witness_FenceTriggerTaken :
    let report := fun (sl : Slot) (cause : FenceCause) (period : Nat) =>
      { sl with cu := { sl.cu with triggers := [{ cause := cause, period := period }] } }
    let x := report (slot1 .active) .stall 1
    inService.cu.triggers = [] ∧
      ((report inService .stall 0).cu.triggers.head? = some { cause := .stall, period := 0 } ∧
        0 ≠ (report inService .stall 0).cu.period) ∧
      (x.cu.triggers.head? = some { cause := .stall, period := 1 } ∧ x.cu.st = .active ∧ 1 = x.cu.period ∧
        x.inForce.graceUs ≠ 0 ∧ (x.trk.ort[3]).body ≠ none ∧ x.capture = none ∧ x.port.waitingRead = none ∧
        (only 1 x).withheld ≠ some 1) := by decide

/-- A fence whose grace ends, with a follow-up and a cause. -/
def graceEnds (followUp : FollowUp) (cause : FenceCause) : Slot :=
  { slot1 .fencing with
    cu := { (slot1 .fencing).cu with cause := cause, grace := some 50100, followUp := followUp } }

theorem witness_GraceEnds :
    let sl := graceEnds .none .order
    sl.trk.age.Nodup ∧ (∀ k : Fin 32, k ∈ sl.trk.age ↔ (sl.trk.ort[k]).body ≠ none) ∧ sl.cu.st = .fencing ∧
      sl.cu.grace.any (reached 50100) = true ∧ sl.trk.watch = .idle ∧ sl.cu.followUp = .none ∧ sl.cu.cause = .order := by
  decide

/-- The follow-ups RETIRE and RECOVER, and an automatic recovery beside slot 2's plan. -/
theorem witness_GraceEnds_followed :
    let r := withOrder 6 .active (graceEnds .retire .stall)
    (r.ou.order.map (·.code) = some 6 ∧ r.cu.followUp = .retire ∧ r.trk.hold = []) ∧
      (graceEnds (.recover .urgent) .stall).cu.followUp = .recover .urgent ∧
      ((graceEnds .none .stall).cu.followUp = .none ∧ (graceEnds .none .stall).inForce.autoRecover ≠ 0 ∧
        (graceEnds .none .stall).cu.cause ≠ .order) ∧
      PlanRunsOn (withPlan (planIn 2 .settling) (only 1 (graceEnds .none .stall))) ∧
      OthersWait (only 1 (graceEnds .none .stall)) 1 :=
  ⟨by decide, rfl, by decide, ⟨_, rfl, Or.inr (Or.inl rfl)⟩, others_of_empty _ 1 (by decide)⟩

/-- At the deadline and one tick before it; answered count below and at the tolerance; another entry OPEN in FENCING. -/
theorem witness_DeadlineExpiry :
    let sl := openAt 0 0 read64 inService
    (inService.trk.ort[0]).body = none ∧ (sl.trk.ort[0]).body = some read64 ∧ read64.origin.isUpstream = true ∧
      reached 2000 read64.deadline = false ∧ reached 2001 read64.deadline = true ∧ sl.trk.hold = [] ∧ sl.trk.waiting = none ∧
      sl.cu.st = .active ∧ sl.inForce.timeoutAction = 0 ∧
      (let f := { SlotSettings.default with timeoutAction := 1, timeoutTolerance := 2 }
       f.timeoutAction ≠ 0 ∧ min 15 ((openAt 0 0 read64 (inState .active f)).trk.answered + 1) < f.timeoutTolerance.toNat ∧
         SlotSettings.default.timeoutTolerance.toNat ≤ min 15 (sl.trk.answered + 1)) ∧
      (slot1 .fencing).cu.st = .fencing ∧ ((slot1 .fencing).trk.ort[12]).body ≠ none ∧
      ((slot1 .fencing).trk.ort[3]).body.any (·.origin.isUpstream) = true := by decide

/-- The hand-on to a waiting controller request and to a held item, and the last entry of a fence. -/
theorem witness_DeadlineExpiry_handOn :
    let w : ControllerRequest := { owner := .capture, offset := 0, write := none }
    let waits := { full 1 with trk := { (full 1).trk with waiting := some w } }
    (waits.trk.ort[0]).body = some read64 ∧ waits.trk.waiting = some w ∧ waits.cu.st = .active ∧
      (full 1).trk.waiting = none ∧ (full 1).trk.hold.length = 1 ∧ (only 0 (full 1)).withheld ≠ some 0 ∧
      ((fencing false read64).trk.ort[6]).body = some read64 ∧ (fencing false read64).cu.st = .fencing ∧
      (∀ j : Fin 32, j ≠ 6 → ((fencing false read64).trk.ort[j]).body = none) ∧ (fencing false read64).cu.grace ≠ none ∧
      (fencing false read64).StaysFenced :=
  ⟨by decide, rfl, rfl, rfl, rfl, by decide, by decide, rfl, by decide, by decide, rfl, Or.inl rfl⟩

theorem witness_HeldItemExpiry :
    let s := atTick 2001 (only 6 (full 8))
    (s.slots[6]).trk.hold[8]? = none ∧ ((s.slots[6]).trk.hold[7]?).map (·.body) = some read64 ∧
      reached s.now read64.deadline = true ∧ reached 2000 read64.deadline = false ∧ (s.slots[6]).cu.st = .active ∧
      s.withheld ≠ some 6 ∧ (s.slots[6]).inForce.timeoutAction = 0 := by decide

theorem witness_ControllerEntryExpiry :
    let sl := openAt 0 5 planBody (slot3 5)
    let s := atTick 1052001 (withPlan (planIn 3 .settling) (only 3 sl))
    s.plan = some (planIn 3 .settling) ∧ (sl.trk.ort[0]).body = some planBody ∧
      reached 1052000 planBody.deadline = false ∧ reached s.now planBody.deadline = true ∧ sl.cu.st = .recovering ∧
      s.queue[3] = none ∧ NoneEligible s ∧ (planIn 3 .settling).attempt < sl.inForce.attemptLimit.toNat ∧
      sl.inForce.holdMs ≠ 0 ∧ NoPlanRequest { sl with trk := sl.trk.withFreed 0 } :=
  ⟨rfl, by decide, by decide, by decide, by decide, by decide, noneEligible_of_empty _ (by decide), by decide, by decide,
    noPlanRequest_of _ (by decide) (by decide)⟩

/-- Attempt 3 of 3; and a capture's read at its deadline, at the identity and at record 0, with and without a cancel taken,
with no further record and with one at index 63. -/
theorem witness_ControllerEntryExpiry_capture :
    let b := { body (.cfgRead 0 true) 4 4 0 10001 with origin := .controller .capture }
    let c := capturing (.record 0) true
    let none := { c with ctx := ContextStore.reset }
    (slot3 2).inForce.attemptLimit.toNat ≤ { planIn 3 .settling with attempt := 3 }.attempt ∧
      ((c.trk.ort[0]).body = some b ∧ b.origin = .controller .capture ∧ reached 10001 b.deadline = true ∧ c.cu.st = .active ∧
        c.trk.hold = [] ∧ c.trk.waiting = .none ∧ c.capture.map (·.stop) = some false) ∧
      (∀ n : Fin 64, ¬ Reads none.ctx.records[n]) ∧ FirstRecord Reads (capturing .identity false).ctx 0 0 ∧
      Reads c.ctx.records[0] ∧ (c.ctx.records[0]).offset = 1023 ∧ FirstRecord Reads c.ctx 1 63 ∧
      (∀ n : Fin 64, 0 < n → ¬ Reads (capturing (.record 0) false).ctx.records[n]) ∧
      LowestFree { c with trk := c.trk.withFreed 0 } 0 :=
  ⟨by decide, by decide, by unfold Reads; decide, by unfold FirstRecord Reads; decide, by unfold Reads; decide, by decide,
    by unfold FirstRecord Reads; decide, by unfold Reads; decide, lowestFree_of _ _ (by decide)⟩

theorem witness_WatchAndReturnExpiry :
    let sl := openAt 0 0 read64 inService
    let armed := { sl with trk := { sl.trk with watch := .armed 17096 } }
    inService.trk.watch = .idle ∧ armed.trk.watch = .armed 17096 ∧ reached 17095 17096 = false ∧
      reached 17096 17096 = true ∧ armed.cu.st = .active ∧ armed.trk.age.head? = some 0 ∧
      (armed.trk.ort[0]).body = some read64 ∧ (inService.rmap[0]).body = none ∧
      (mapped.rmap[0]).body.map (·.expiry) = some 300000 ∧ reached 299999 300000 = false ∧
      reached 300000 300000 = true ∧ mapped.port.waitingRead = none := by decide

theorem witness_HoldTickExpiry :
    let p := { planIn 3 .resetHold with holdTick := some 1010000 }
    let s := atTick 1010000 (withPlan p (only 3 (inReset (slot3 5))))
    State.reset.plan = none ∧ s.plan = some p ∧ p.holdTick.any (reached 1009999) = false ∧
      p.holdTick.any (reached s.now) = true ∧ (inReset (slot3 5)).port.line = .asserted ∧ p.stop = false ∧
      { p with stop := true }.stop = true ∧ NoPlanRequest (inReset (slot3 5)) ∧ NoneEligible s :=
  ⟨rfl, rfl, by decide, by decide, rfl, rfl, rfl, noPlanRequest_of _ (by decide) (by decide),
    noneEligible_of_empty _ (by decide)⟩

/-- Attempt 2 of 3 and attempt 3 of 3, at each of the three limits. -/
theorem witness_AttemptFails :
    let p := fun (k : Nat) =>
      { planIn 3 .restoring with attempt := k, trainLimit := some 9, settleLimit := some 9, retryLimit := some 9 }
    let s := atTick 9 (withPlan (p 2) (only 3 (slot3 2)))
    s.plan = some (p 2) ∧ (p 2).stop = false ∧ (slot3 2).cu.st = .recovering ∧ s.queue[3] = none ∧ NoneEligible s ∧
      NoPlanRequest (slot3 2) ∧ (p 2).trainLimit.any (reached s.now) = true ∧
      (p 2).settleLimit.any (reached s.now) = true ∧ (p 2).retryLimit.any (reached s.now) = true ∧
      (p 2).attempt < (slot3 2).inForce.attemptLimit.toNat ∧ (slot3 2).inForce.holdMs ≠ 0 ∧
      (slot3 2).inForce.attemptLimit.toNat ≤ (p 3).attempt :=
  ⟨rfl, rfl, rfl, by decide, noneEligible_of_empty _ (by decide), noPlanRequest_of _ (by decide) (by decide), by decide,
    by decide, by decide, by decide, by decide, by decide⟩

theorem witness_RetryTickExpiry :
    let p := fun (phase : PlanPhase) (step : PlanStep) => { planIn 3 phase with retryTick := some 9, step := step }
    (p .settling .none).retryTick.any (reached 8) = false ∧ (p .settling .none).retryTick.any (reached 9) = true ∧
      (p .settling .none).stop = false ∧ LowestFree (slot3 5) 0 ∧ (p .restoring .write).step = .write ∧
      (p .restoring .verify).step = .verify ∧ (p .restoring .write).phase = .restoring :=
  ⟨by decide, by decide, rfl, lowestFree_of _ _ (by decide), rfl, rfl, rfl⟩

/-- Section 7.8: the identity of the card and another one, at an identity read; a restore write and a verify read that is
answered as written and otherwise; a refusal; and records 0 and 2 that are written. -/
theorem witness_RetryTickExpiry_results :
    let sl := openAt 0 5 planBody (slot3 5)
    let answer : Completion := { answered 160 4 0 1 with data := [0x12345A47] }
    let value := ofLeBytes 32 4 ((carriedStream answer).take 4)
    let write := { body (.cfgWrite 1 true 0x00100146 3) 0 0 0 9 with origin := .controller .plan }
    let s := withPlan (planIn 3 .settling) (only 3 sl)
    s.plan = some (planIn 3 .settling) ∧ (sl.trk.ort[0]).body = some planBody ∧ sl.cu.st = .recovering ∧
      (planIn 3 .settling).stop = false ∧ answer.status = .success ∧ bytesCarried answer = 4 ∧ planBody.bytesOwed = 4 ∧
      planBody.gathered = [] ∧ value = sl.ctx.header.identity ∧ sl.ctx.header.identityValid ≠ 0 ∧
      value ≠ sl.ctx.header.identity + 1 ∧ s.queue[3] = none ∧ NoneEligible s ∧
      NoPlanRequest { sl with trk := sl.trk.withFreed 0 } ∧
      FirstRecord Writes sl.ctx 0 0 ∧ LowestFree { sl with trk := sl.trk.withFreed 0 } 0 ∧ write.bytesOwed = 0 ∧
      (value ^^^ 0x12345A47) &&& 0xFFFFFFFF = 0 ∧ (value ^^^ 0x12345A48) &&& 0xFFFFFFFF ≠ 0 ∧
      (refused 160 .notReady).data = [] :=
  ⟨rfl, by decide, rfl, rfl, rfl, by decide, rfl, rfl, by decide, by decide, by decide, by decide,
    noneEligible_of_empty _ (by decide), noPlanRequest_of _ (by decide) (by decide),
    by unfold FirstRecord Writes; decide, lowestFree_of _ _ (by decide), rfl, by decide, by decide, rfl⟩

theorem witness_DelayTickExpiry :
    let p := fun (cursor : Nat) => { planIn 3 .restoring with delayTick := some 9, cursor := cursor }
    let s := atTick 9 (withPlan (p 2) (only 3 (slot3 5)))
    (p 0).phase = .restoring ∧ (p 0).delayTick.any (reached 8) = false ∧ (p 0).delayTick.any (reached s.now) = true ∧ (p 0).stop = false ∧
      FirstRecord Writes (slot3 5).ctx 1 2 ∧ LowestFree (slot3 5) 0 ∧ NoneEligible s ∧
      ∀ n : Fin 64, (p 2).cursor < n.val → ¬ Writes (slot3 5).ctx.records[n] :=
  ⟨rfl, by decide, by decide, rfl, by unfold FirstRecord Writes; decide, lowestFree_of _ _ (by decide),
    noneEligible_of_empty _ (by decide), by unfold Writes; decide⟩

/-- Section 11.3, tick 531,200: slots 1 and 6. -/
theorem witness_PlanGrant :
    let s := queued 6 .routine 2 520000 true (queued 1 .routine 1 515000 true (atTick 531200 State.reset))
    (withPlan (planIn 4 .settling) s).plan ≠ none ∧ s.plan = none ∧ NoneEligible State.reset ∧
      s.queue[1] = some { level := .routine, attempt := 1, earliest := 515000, eligible := true } ∧
      ∀ k : SlotId, ∀ f, s.queue[k] = some f → f.eligible = true ∨ reached s.now f.earliest = true →
        (f.level = .routine → (1 : SlotId) ≤ k) ∧ (f.level = .urgent → Level.routine = .urgent) := by
  refine ⟨by decide, rfl, noneEligible_of_empty _ (by decide), by decide, fun k f hf _ => ?_⟩
  have h : ∀ k : SlotId, ((queued 6 .routine 2 520000 true (queued 1 .routine 1 515000 true
      (atTick 531200 State.reset))).queue[k]).all (fun f => f.level == .routine && decide ((1 : SlotId) ≤ k)) = true := by
    decide
  have hk := h k
  rw [hf] at hk
  simp only [Option.all_some, Bool.and_eq_true, beq_iff_eq, decide_eq_true_eq] at hk
  exact ⟨fun _ => hk.2, fun hu => by rw [hk.1] at hu; cases hu⟩

theorem witness_EarliestStartReached :
    let e : QueueEntry := { level := .urgent, attempt := 1, earliest := 515000, eligible := false }
    let s := queued 4 .urgent 1 515000 false (atTick 515000 State.reset)
    State.reset.queue[4] = none ∧ s.queue[4] = some e ∧ reached 514999 e.earliest = false ∧
      reached s.now e.earliest = true ∧ PlanRunsOn (withPlan (planIn 1 .settling) s) ∧ s.plan = none ∧
      OthersWait s 4 ∧ (planIn 1 .training).level = .routine ∧ (planIn 1 .training).phase = .training ∧ (planIn 1 .training).stop = false ∧
      (planIn 1 .training).slot ≠ 4 :=
  ⟨rfl, by decide, by decide, by decide, ⟨_, rfl, Or.inr (Or.inl rfl)⟩, rfl, others_of_empty _ 4 (by decide), rfl, rfl, rfl,
    by decide⟩

/-- The run count at 0, at 6 and at 7. -/
theorem witness_PresenceSamples :
    let seen := fun (n : Nat) => { SlotPort.reset with runCount := n }
    inService.port.accepted = .present ∧ ((seen 0).accepted ≠ .present ∧ (seen 0).runCount < 7) ∧
      ((seen 6).accepted ≠ .present ∧ (seen 6).runCount < 7) ∧ (seen 7).accepted = .absent ∧ (seen 7).runCount = 7 := by
  decide

/-- With nothing owed, and with a read OPEN and another held. -/
theorem witness_CardRemoval :
    let leaves := fun (sl : Slot) => { sl with port := { sl.port with runCount := 7 } }
    let sl := leaves (openAt 5 0 read64 { inService with trk := { inService.trk with
      hold := [{ body := read64, request := hostRead }] } })
    (leaves inService).port.accepted = .present ∧ (leaves inService).port.runCount = 7 ∧ sl.cu.st ≠ .recovering ∧
      sl.capture = none ∧ sl.port.waitingRead = none ∧ (only 0 sl).withheld ≠ some 0 ∧ sl.trk.age.Nodup ∧
      (∀ k : Fin 32, k ∈ sl.trk.age ↔ (sl.trk.ort[k]).body ≠ none) ∧ sl.trk.hold ≠ [] := by
  decide

/-- RECOVERING: QUEUED beside slot 2's plan, and the current plan with its read OPEN. -/
theorem witness_CardRemoval_recovering :
    let leaves := fun (sl : Slot) => { sl with port := { sl.port with runCount := 7 } }
    let s := queued 3 .routine 1 0 true (withPlan (planIn 2 .settling) (only 3 (leaves (slot3 5))))
    let sl := leaves (openAt 0 5 planBody (slot3 5))
    let u := withPlan { planIn 3 .settling with stop := true } (only 3 sl)
    (leaves (slot3 5)).port.accepted = .present ∧ (leaves (slot3 5)).cu.st = .recovering ∧ (leaves (slot3 5)).Quiet ∧
      s.queue[3].isSome = true ∧ (∀ p, s.plan = some p → p.slot ≠ 3) ∧ s.plan ≠ none ∧
      u.plan = some { planIn 3 .settling with stop := true } ∧ u.queue[3] = none ∧ NoneEligible u ∧
      PlanRequestEnded sl (sl.trk.withFreed 0) :=
  ⟨rfl, rfl, by unfold Slot.Quiet; decide, by decide, fun p hp => by cases hp; decide, by decide, rfl, by decide,
    noneEligible_of_empty _ (by decide), planRequestEnded_of_open⟩

theorem witness_LinkEvents :
    let s := withPlan (planIn 3 .training) (put 4 (training inService) (only 3 (training (slot3 5))))
    inService.port.link ≠ .training ∧ inService.port.link = .up ∧ (s.slots[4]).port.link = .training ∧
      (∀ p, s.plan = some p → p.slot ≠ 4 ∨ p.phase ≠ .training) ∧ (s.slots[3]).port.link = .training ∧
      s.plan = some (planIn 3 .training) ∧ (planIn 3 .training).stop = false ∧ LowestFree s.slots[3] 0 :=
  ⟨by decide, rfl, by decide, fun p hp => by cases hp; decide, by decide, rfl, rfl, lowestFree_of _ _ (by decide)⟩

/-- One byte of one, 4,096 of 4,096, and 680 of 800 in mode REFUSE (section 4.10). -/
theorem witness_StandInContents :
    (1 ≤ 1 ∧ 1 ≤ 4096 ∧ 4096 ≤ 4096 ∧ (0 : Byte) = 0) ∧ (680 ≤ 800 ∧ 680 < 800) ∧ (1 : Byte) ≠ 0 ∧
      ((standIns 1 0 0 (.memRead 0xE0400040) 800 680).map bytesCarried = [72, 256, 256, 96]) := by decide +kernel

theorem witness_DeadlinesComputed :
    SettingsInv mixed ∧ (mixed.slots[0]).cu.st = .active ∧ LowestFree mixed.slots[0] 0 ∧ mixed.hostQueue = [] ∧
      mixed.target (.known (.memRead (memory 0xE0000000 1024 0xF 0xF))) = .slot 0 ∧ (mixed.slots[0]).trk.hold = [] ∧
      lengthOf (.memRead (memory 0xE0000000 1024 0xF 0xF)) = 1024 ∧ lengthOf hostRead = 1 ∧
      (mixed.slots[0]).ou.cell.owner = .software :=
  ⟨settings_mixed, by decide, lowestFree_of _ _ (by decide), rfl, by decide, by decide, by decide, by decide, by decide⟩

theorem witness_SettingsKept : SettingsInv mixed ∧ ∃ t, step mixed = .next t := ⟨settings_mixed, _, rfl⟩

/-- A state with an entry OPEN and an item held. -/
def tabled : State := only 0 (openAt 5 0 read64 { inService with trk := { inService.trk with
  hold := [{ body := read64, request := hostRead }] } })

theorem tables_tabled : TableInv tabled where
  ageNodup := by decide
  ageLists := by decide
  owed i k b hb := by
    have h := (by decide +kernel : ∀ (i : SlotId) (k : Fin 32),
      (((tabled.slots[i]).trk.ort[k]).body).all (fun b => decide (b.bytesOwed ≤ b.bytesRequested)) = true) i k
    rw [hb] at h
    simpa using h
  holdDepth := by decide
  held := by decide
  returned i k b hb := by
    have h := (by decide +kernel : ∀ (i : SlotId) (k : Fin 16), ((tabled.slots[i]).rmap[k]).body = none) i k
    rw [hb] at h
    cases h

theorem witness_TablesKept : TableInv tabled ∧ ∃ t, step tabled = .next t := ⟨tables_tabled, _, rfl⟩

/-- A state with a plan in TRAINING at slot 3. -/
def recovering : State := withPlan { planIn 3 .training with trainLimit := some 9 } (only 3 (training (slot3 5)))

theorem sequencer_recovering : SequencerInv recovering where
  recovering i := by
    have h := (by decide : ∀ i : SlotId, ((recovering.slots[i]).cu.st = .recovering ↔ (3 : SlotId) = i) ∧
      recovering.queue[i] = none) i
    rw [h.1]
    constructor
    · exact fun h3 => Or.inr ⟨_, rfl, h3⟩
    · rintro (hq | ⟨p, hp, h3⟩)
      · exact absurd h.2 hq
      · cases hp
        exact h3
  notQueued p hp := by cases hp; decide
  asserted := by decide
  resetHold p hp := by cases hp; decide
  presence := by decide
  linkDown := by decide
  noAttempt := by decide
  attemptBound := by decide
  attemptOfPlan p hp := by cases hp; decide
  timers p hp := by cases hp; decide
  attemptOfEntry i e he := by
    have h := (by decide : ∀ i : SlotId, recovering.queue[i] = none) i
    rw [he] at h
    cases h

theorem settings_recovering : SettingsInv recovering where
  windowsDisjoint i j hij :=
    disjoint_of_overlaps _ _ ((by decide : ∀ i j : SlotId, i ≠ j →
      overlaps (windowOf (recovering.slots[i]).inForce) (windowOf (recovering.slots[j]).inForce) = false) i j hij)
  busesDisjoint i j hij :=
    disjoint_of_overlaps _ _ ((by decide : ∀ i j : SlotId, i ≠ j →
      overlaps (busRangeOf (recovering.slots[i]).inForce) (busRangeOf (recovering.slots[j]).inForce) = false) i j hij)
  windows := by decide
  stretch := by decide
  watchPeriod := by decide
  tolerance := by decide
  attemptLimit := by decide
  hold := by decide
  grace := by decide
  trainLimit := by decide
  settleLimit := by decide
  settleRetry := by decide
  ceiling := by decide
  codes := by decide
  returnLimit := by decide

theorem witness_SequencerKept :
    SettingsInv recovering ∧ SequencerInv recovering ∧ ∃ t, step recovering = .next t :=
  ⟨settings_recovering, sequencer_recovering, _, rfl⟩

end Sys2Proof.Tests
end

/-! PROOF. What every operation keeps: the settings in force stay within their ranges (R7, R45, R160, R161) and what has
left the Upstream Port stays, with no interrupt message behind it but the event's own (R17, R169). -/

namespace Sys2Proof.Machine

open Sys2Proof

/-! ### The settings in force -/

/-- What R161 keeps the settings in force of one slot to. -/
structure SlotSettings.InRange (f : SlotSettings) : Prop where
  windows : 1 ≤ f.windowReadUs.toNat ∧ 1 ≤ f.windowConfigUs.toNat
  stretch : f.stretch.toNat ≤ 3
  watchPeriod : f.watchPeriod.toNat ≤ 63
  tolerance : 1 ≤ f.timeoutTolerance.toNat ∧ f.timeoutTolerance.toNat ≤ 15
  attemptLimit : 1 ≤ f.attemptLimit.toNat ∧ f.attemptLimit.toNat ≤ 7
  hold : 1 ≤ f.holdMs.toNat
  grace : f.graceUs.toNat ≤ 10000
  trainLimit : 1 ≤ f.trainLimitMs.toNat ∧ f.trainLimitMs.toNat ≤ 1000
  settleLimit : 1 ≤ f.settleLimitMs.toNat ∧ f.settleLimitMs.toNat ≤ 2000
  settleRetry : 100 ≤ f.settleRetryUs.toNat ∧ f.settleRetryUs.toNat ≤ 10000
  codes : f.timeoutAction.toNat ≤ 1 ∧ f.standinMode.toNat ≤ 1 ∧ f.fenceOnFatal.toNat ≤ 1 ∧ f.autoRecover.toNat ≤ 1 ∧
    f.priority.toNat ≤ 1

/-- What R163 keeps the Device Settings in force to. -/
structure DeviceSettings.InRange (d : DeviceSettings) : Prop where
  ceiling : 100 ≤ d.ceilingUs.toNat ∧ d.ceilingUs.toNat ≤ 4194303
  returnLimit : 1 ≤ d.returnLimitMs.toNat ∧ d.returnLimitMs.toNat ≤ 1000

/-- R160: two slots' settings route no address and no bus to both. -/
def SlotSettings.RoutedApart (f g : SlotSettings) : Prop :=
  (∀ a, ¬ (inRange (windowOf f) a = true ∧ inRange (windowOf g) a = true)) ∧
    ∀ b, ¬ (inRange (busRangeOf f) b = true ∧ inRange (busRangeOf g) b = true)

theorem SlotSettings.RoutedApart.symm {f g : SlotSettings} (h : f.RoutedApart g) : g.RoutedApart f :=
  ⟨fun a ha => h.1 a ha.symm, fun b hb => h.2 b hb.symm⟩

/-- The invariant of the settings, slot by slot. -/
theorem settingsInv_iff (s : State) :
    SettingsInv s ↔ (∀ i j : SlotId, i ≠ j → (s.slots[i]).inForce.RoutedApart (s.slots[j]).inForce) ∧
      (∀ i : SlotId, (s.slots[i]).inForce.InRange) ∧ s.device.InRange := by
  constructor
  · intro h
    exact ⟨fun i j hij => ⟨h.windowsDisjoint i j hij, h.busesDisjoint i j hij⟩,
      fun i => ⟨h.windows i, h.stretch i, h.watchPeriod i, h.tolerance i, h.attemptLimit i, h.hold i, h.grace i,
        h.trainLimit i, h.settleLimit i, h.settleRetry i, h.codes i⟩, ⟨h.ceiling, h.returnLimit⟩⟩
  · rintro ⟨apart, slot, device⟩
    exact
      { windowsDisjoint := fun i j hij => (apart i j hij).1
        busesDisjoint := fun i j hij => (apart i j hij).2
        windows := fun i => (slot i).windows
        stretch := fun i => (slot i).stretch
        watchPeriod := fun i => (slot i).watchPeriod
        tolerance := fun i => (slot i).tolerance
        attemptLimit := fun i => (slot i).attemptLimit
        hold := fun i => (slot i).hold
        grace := fun i => (slot i).grace
        trainLimit := fun i => (slot i).trainLimit
        settleLimit := fun i => (slot i).settleLimit
        settleRetry := fun i => (slot i).settleRetry
        ceiling := device.ceiling
        codes := fun i => (slot i).codes
        returnLimit := device.returnLimit }

/-- The invariant of the settings speaks of the settings in force alone. -/
theorem SettingsInv.of_inForce_eq {s t : State} (h : SettingsInv s)
    (hs : ∀ j : SlotId, (t.slots[j]).inForce = (s.slots[j]).inForce) (hd : t.device = s.device) : SettingsInv t := by
  rw [settingsInv_iff] at h ⊢
  simpa only [hs, hd] using h

/-- A value brought within a range lies in it. -/
theorem toNat_clampTo {w : Nat} (lo hi : Nat) (v : BitVec w) (hlo : lo ≤ hi) (hw : hi < 2 ^ w) :
    lo ≤ (clampTo lo hi v).toNat ∧ (clampTo lo hi v).toNat ≤ hi := by
  have hmod : min (max v.toNat lo) hi % 2 ^ w = min (max v.toNat lo) hi :=
    Nat.mod_eq_of_lt (lt_of_le_of_lt (min_le_right _ _) hw)
  rw [clampTo, BitVec.toNat_ofNat, hmod]
  omega

/-- R161: clamped settings are within their ranges. -/
theorem SlotSettings.clamped_inRange (c : SlotSettings) : c.clamped.InRange where
  windows := ⟨(toNat_clampTo 1 65535 _ (by decide) (by decide)).1, (toNat_clampTo 1 65535 _ (by decide) (by decide)).1⟩
  stretch := (toNat_clampTo 0 3 _ (by decide) (by decide)).2
  watchPeriod := (toNat_clampTo 0 63 _ (by decide) (by decide)).2
  tolerance := toNat_clampTo 1 15 _ (by decide) (by decide)
  attemptLimit := toNat_clampTo 1 7 _ (by decide) (by decide)
  hold := (toNat_clampTo 1 255 _ (by decide) (by decide)).1
  grace := (toNat_clampTo 0 10000 _ (by decide) (by decide)).2
  trainLimit := toNat_clampTo 1 1000 _ (by decide) (by decide)
  settleLimit := toNat_clampTo 1 2000 _ (by decide) (by decide)
  settleRetry := toNat_clampTo 100 10000 _ (by decide) (by decide)
  codes := ⟨(toNat_clampTo 0 1 _ (by decide) (by decide)).2, (toNat_clampTo 0 1 _ (by decide) (by decide)).2,
    (toNat_clampTo 0 1 _ (by decide) (by decide)).2, (toNat_clampTo 0 1 _ (by decide) (by decide)).2,
    (toNat_clampTo 0 1 _ (by decide) (by decide)).2⟩

/-- R7, R160: ranges that both contain a value overlap. -/
theorem overlaps_of_inRange {w : Nat} {r q : Option (BitVec w × BitVec w)} {a : BitVec w} (hr : inRange r a = true)
    (hq : inRange q a = true) : overlaps r q = true := by
  obtain ⟨⟨lo, hi⟩, rfl, h⟩ := (Option.any_eq_true _ _).mp hr
  obtain ⟨⟨lo', hi'⟩, rfl, h'⟩ := (Option.any_eq_true _ _).mp hq
  simp only [Bool.and_eq_true, decide_eq_true_eq, BitVec.le_def] at h h'
  simp only [overlaps, Bool.and_eq_true, decide_eq_true_eq, BitVec.le_def]
  omega

/-- R160, R161: an APPLY that passes the routing check keeps the settings in their ranges and the slots apart. -/
theorem SettingsInv.takeSettings {s : State} {i : SlotId} (h : SettingsInv s)
    (hw : s.windowOverlap i (s.slots[i]).cells = none) (hb : s.busOverlap i (s.slots[i]).cells = none) :
    SettingsInv (s.takeSettings i) := by
  rw [settingsInv_iff] at h ⊢
  obtain ⟨apart, slot, device⟩ := h
  have hget : ∀ j : SlotId, ((s.takeSettings i).slots[j]).inForce =
      if j = i then (s.slots[i]).cells.clamped else (s.slots[j]).inForce := by
    intro j
    rw [State.takeSettings, State.onSlot_slots_get]
    by_cases hj : j = i
    · subst hj; simp
    · simp [hj]
  have applied : ∀ j : SlotId, j ≠ i → (s.slots[i]).cells.clamped.RoutedApart (s.slots[j]).inForce := by
    intro j hj
    have hwj := (find_finRange_eq_none _).mp hw j
    have hbj := (find_finRange_eq_none _).mp hb j
    simp only [bne_iff_ne.mpr hj, Bool.true_and] at hwj hbj
    exact ⟨fun a ha => absurd (overlaps_of_inRange ha.1 ha.2) (ne_true_of_eq_false hwj),
      fun b hb => absurd (overlaps_of_inRange hb.1 hb.2) (ne_true_of_eq_false hbj)⟩
  refine ⟨fun j k hjk => ?_, fun j => ?_, device⟩
  · rw [hget, hget]
    by_cases hj : j = i
    · rw [if_pos hj, if_neg (hj ▸ hjk.symm)]
      exact applied k (hj ▸ hjk.symm)
    · rw [if_neg hj]
      split
      · exact (applied j hj).symm
      · exact apart j k hjk
  · rw [hget]
    split
    · exact SlotSettings.clamped_inRange _
    · exact slot j

/-- The settings in force after power-on reset (R164). -/
theorem settingsInv_reset : SettingsInv State.reset := by
  have hslot : ∀ j : SlotId, (State.reset.slots[j]).inForce = SlotSettings.default := by
    intro j
    simp [State.reset, Slot.reset]
  have hdefault : SlotSettings.default.RoutedApart SlotSettings.default := by
    constructor <;> rintro a ⟨ha, -⟩ <;> cases ha
  refine (settingsInv_iff _).mpr ⟨fun i j _ => ?_, fun i => ?_, ⟨by decide, by decide⟩⟩
  · rw [hslot, hslot]
    exact hdefault
  · rw [hslot]
    constructor <;> decide

/-! ### Operations that keep to the settings and to the upstream order -/

/-- What leads from `s` to `t` keeps the settings in force within their ranges and only adds to what has left the Upstream
Port; nothing that it adds is an interrupt message. -/
structure Orderly (s t : State) : Prop where
  settings : SettingsInv s → SettingsInv t
  upstream : ∃ sent : List HostPacket, (∀ a d, HostPacket.interrupt a d ∉ sent) ∧
    t.wires.upstream = s.wires.upstream ++ sent

theorem Orderly.refl (s : State) : Orderly s s :=
  ⟨id, [], fun _ _ => List.not_mem_nil, (List.append_nil _).symm⟩

section
variable {s t : State}

/-- A change that leaves every slot's settings in force, the device's and the upstream order as they are. -/
theorem Orderly.of_kept {u : State} (h : Orderly s t) (hs : ∀ j : SlotId, (u.slots[j]).inForce = (t.slots[j]).inForce)
    (hd : u.device = t.device := by rfl) (hu : u.wires.upstream = t.wires.upstream := by rfl) : Orderly s u :=
  ⟨fun hi => (h.settings hi).of_inForce_eq hs hd, by rw [hu]; exact h.upstream⟩

/-- A change outside the slots, the Device Settings in force and the upstream order. -/
theorem Orderly.outside {u : State} (h : Orderly s t) (hs : u.slots = t.slots := by rfl)
    (hd : u.device = t.device := by rfl) (hu : u.wires.upstream = t.wires.upstream := by rfl) : Orderly s u :=
  h.of_kept (fun j => by rw [hs]) hd hu

/-- A change of one slot that leaves its settings in force as they are. -/
theorem Orderly.onSlot {i : SlotId} {f : Slot → Slot} (h : Orderly s t)
    (hf : (f t.slots[i]).inForce = (t.slots[i]).inForce := by rfl) : Orderly s (t.onSlot i f) :=
  h.of_kept fun j => State.onSlot_slots_field t Slot.inForce i j f hf

/-- Packets that are no interrupt messages take their places in the upstream order. -/
theorem Orderly.append {u : State} (h : Orderly s t) (ps : List HostPacket) (hp : ∀ a d, HostPacket.interrupt a d ∉ ps)
    (hs : u.slots = t.slots := by rfl) (hd : u.device = t.device := by rfl)
    (hu : u.wires.upstream = t.wires.upstream ++ ps := by rfl) : Orderly s u := by
  obtain ⟨sent, hsent, heq⟩ := h.upstream
  refine ⟨fun hi => (h.settings hi).of_inForce_eq (fun j => by rw [hs]) hd, sent ++ ps, fun a d hm => ?_, ?_⟩
  · exact (List.mem_append.mp hm).elim (hsent a d) (hp a d)
  · rw [hu, heq, List.append_assoc]

theorem Orderly.emit {p : HostPacket} (h : Orderly s t) (hp : ∀ a d, p ≠ .interrupt a d) : Orderly s (t.emit p) :=
  h.append [p] fun a d hm => hp a d (List.mem_singleton.mp hm).symm

theorem Orderly.emitCompletions {cs : List Completion} (h : Orderly s t) : Orderly s (t.emitCompletions cs) :=
  h.append (cs.map .completion) fun a d hm => by simp at hm

theorem Orderly.foldl {α : Type} {f : State → α → State} {as : List α} (h : Orderly s t)
    (hf : ∀ u a, Orderly s u → Orderly s (f u a)) : Orderly s (as.foldl f t) := by
  induction as generalizing t with
  | nil => exact h
  | cons a as ih => exact ih (hf t a h)

end

end Sys2Proof.Machine

/-! PROOF. The operations of the blocks are orderly, in the order of the model's files. -/

namespace Sys2Proof.Machine

open Sys2Proof

section
variable {s t : State} {i : SlotId}

/-! ### The shared operations -/

theorem Orderly.onCu {f : Containment → Containment} (h : Orderly s t) : Orderly s (t.onCu i f) := by
  unfold State.onCu
  exact h.onSlot

theorem Orderly.onTracker {f : Tracker → Tracker} (h : Orderly s t) : Orderly s (t.onTracker i f) := by
  unfold State.onTracker
  exact h.onSlot

theorem Orderly.onPort {f : SlotPort → SlotPort} (h : Orderly s t) : Orderly s (t.onPort i f) := by
  unfold State.onPort
  exact h.onSlot

theorem Orderly.onOrderUnit {f : OrderUnit → OrderUnit} (h : Orderly s t) : Orderly s (t.onOrderUnit i f) := by
  unfold State.onOrderUnit
  exact h.onSlot

theorem Orderly.onCounters {f : Counters → Counters} (h : Orderly s t) : Orderly s (t.onCounters i f) := by
  unfold State.onCounters
  exact h.onSlot

theorem Orderly.countPostedDiscarded {n : Nat} (h : Orderly s t) : Orderly s (t.countPostedDiscarded i n) := by
  unfold State.countPostedDiscarded
  exact h.onCounters

theorem Orderly.countStandins {n : Nat} (h : Orderly s t) : Orderly s (t.countStandins i n) := by
  unfold State.countStandins
  exact h.onCounters

theorem Orderly.countLate (h : Orderly s t) : Orderly s (t.countLate i) := by
  unfold State.countLate
  exact h.onCounters

theorem Orderly.countStale (h : Orderly s t) : Orderly s (t.countStale i) := by
  unfold State.countStale
  exact h.onCounters

theorem Orderly.countCardDropped (h : Orderly s t) : Orderly s (t.countCardDropped i) := by
  unfold State.countCardDropped
  exact h.onCounters

theorem Orderly.countOverrun (h : Orderly s t) : Orderly s (t.countOverrun i) := by
  unfold State.countOverrun
  exact h.onCounters

theorem Orderly.countTimeout (h : Orderly s t) : Orderly s (t.countTimeout i) := by
  unfold State.countTimeout
  exact h.onCounters

theorem Orderly.countUnrouted (h : Orderly s t) : Orderly s t.countUnrouted := by
  unfold State.countUnrouted
  exact h.outside

theorem Orderly.raise {a : Attention} (h : Orderly s t) : Orderly s (t.raise i a) := by
  unfold State.raise
  exact h.outside

theorem Orderly.clearAttention {a : Attention} (h : Orderly s t) : Orderly s (t.clearAttention i a) := by
  unfold State.clearAttention
  exact h.outside

theorem Orderly.setQueue {e : Option QueueEntry} (h : Orderly s t) : Orderly s (t.setQueue i e) := by
  unfold State.setQueue
  exact h.outside

theorem Orderly.setPlan {p : Option Plan} (h : Orderly s t) : Orderly s (t.setPlan p) := by
  unfold State.setPlan
  exact h.outside

theorem Orderly.setSlotState {st : SlotState} (h : Orderly s t) : Orderly s (t.setSlotState i st) := by
  unfold State.setSlotState
  exact h.onCu

theorem Orderly.setAttempt {k : Nat} (h : Orderly s t) : Orderly s (t.setAttempt i k) := by
  unfold State.setAttempt
  exact h.onSlot

theorem Orderly.becomeActive (h : Orderly s t) : Orderly s (t.becomeActive i) := by
  unfold State.becomeActive
  exact h.onCu.onTracker

theorem Orderly.reportTrigger {cause : FenceCause} (h : Orderly s t) : Orderly s (t.reportTrigger i cause) := by
  unfold State.reportTrigger
  exact h.onCu

theorem Orderly.fileIncident {kind : IncidentKind} {reason : Reason} {a b c : Option Dword} (h : Orderly s t) :
    Orderly s (t.fileIncident i kind reason a b c) := by
  have hserial : Orderly s { t with incidentSerial := t.incidentSerial + 1 } := h.outside
  exact hserial.onSlot.raise

theorem Orderly.endOrder {outcome : OrderOutcome} {reason : Reason} {d1 d2 d3 : Dword} (h : Orderly s t) :
    Orderly s (t.endOrder i outcome reason d1 d2 d3) := by
  unfold State.endOrder
  split
  · exact h.onOrderUnit.raise
  · exact h

theorem Orderly.endOrderOf {c : OrderCode} {outcome : OrderOutcome} {reason : Reason} {d1 d2 d3 : Dword}
    (h : Orderly s t) : Orderly s (t.endOrderOf i c outcome reason d1 d2 d3) := by
  unfold State.endOrderOf
  split
  · exact h.endOrder
  · exact h

/-! ### The Slot Port -/

theorem Orderly.pushOutbound {q : CardPacket} (h : Orderly s t) : Orderly s (t.pushOutbound i q) := by
  unfold State.pushOutbound
  exact h.onPort

theorem Orderly.emptyOutbound (h : Orderly s t) : Orderly s (t.emptyOutbound i) := by
  unfold State.emptyOutbound
  exact h.countPostedDiscarded.onPort

theorem Orderly.takeLinkDown (h : Orderly s t) : Orderly s (t.takeLinkDown i) := by
  unfold State.takeLinkDown
  split
  · exact h.emptyOutbound.onPort
  · exact h.onPort

theorem Orderly.assertLine (h : Orderly s t) : Orderly s (t.assertLine i) := by
  unfold State.assertLine
  split
  · exact h.takeLinkDown.onPort
  · exact h

theorem Orderly.releaseLine (h : Orderly s t) : Orderly s (t.releaseLine i) := by
  unfold State.releaseLine
  split
  · exact h.onPort
  · exact h

theorem Orderly.dropWaitingRead (h : Orderly s t) : Orderly s (t.dropWaitingRead i) := by
  unfold State.dropWaitingRead
  split
  · exact h.onPort.countCardDropped
  · exact h

/-! ### The Return Map -/

theorem Orderly.openReturn {k : Fin 16} {r : MemRequest} (h : Orderly s t) : Orderly s (t.openReturn i k r) := by
  unfold State.openReturn
  exact h.onSlot.emit fun _ _ => nofun

theorem Orderly.takeCardRead {r : MemRequest} (h : Orderly s t) : Orderly s (t.takeCardRead i r) := by
  unfold State.takeCardRead
  split
  · split
    · exact h.openReturn
    · exact h.onPort
  · exact h.countCardDropped

theorem Orderly.handOverRead (h : Orderly s t) : Orderly s (t.handOverRead i) := by
  unfold State.handOverRead
  split
  · exact h.onPort.takeCardRead
  · exact h

theorem Orderly.freeReturn {k : Fin 16} (h : Orderly s t) : Orderly s (t.freeReturn i k) := by
  unfold State.freeReturn
  exact h.onSlot.handOverRead

/-! ### What the Upstream Port answers and what reaches a Tracker -/

theorem Orderly.sendStandIns {cs : List Completion} (h : Orderly s t) : Orderly s (t.sendStandIns i cs) := by
  unfold State.sendStandIns
  exact h.emitCompletions.countStandins

theorem Orderly.answerUnrouted {q : HostRequest} (h : Orderly s t) : Orderly s (t.answerUnrouted q) := by
  unfold State.answerUnrouted
  exact h.emitCompletions.outside

theorem Orderly.openEntry {k : Fin 32} {b : OrtBody} {q : NonPosted} (h : Orderly s t) :
    Orderly s (t.openEntry i k b q) := by
  unfold State.openEntry
  exact h.onSlot

theorem Orderly.openController {k : Fin 32} {c : ControllerRequest} (h : Orderly s t) :
    Orderly s (t.openController i k c) := by
  unfold State.openController
  exact h.openEntry

theorem Orderly.issueController {c : ControllerRequest} (h : Orderly s t) : Orderly s (t.issueController i c) := by
  unfold State.issueController
  split
  · exact h.openController
  · exact h.onTracker

theorem Orderly.takeHostRequest {q : NonPosted} (h : Orderly s t) : Orderly s (t.takeHostRequest i q) := by
  unfold State.takeHostRequest
  dsimp only
  split
  · exact h.openEntry
  · split
    · exact h.onTracker
    · exact h.outside

theorem Orderly.answerWindowRead {r : MemRequest} {offset : Nat} (h : Orderly s t) :
    Orderly s (t.answerWindowRead r offset) := by
  unfold State.answerWindowRead
  exact h.emitCompletions.outside

theorem Orderly.serveManagement {q : NonPosted} (h : Orderly s t) : Orderly s (t.serveManagement q) := by
  cases q with
  | memRead r => exact h
  | cfgRead r => exact h.emitCompletions
  | cfgWrite r d => exact h.append [.completion _] fun _ _ hm => by simp at hm

theorem Orderly.slotRequest {q : NonPosted} (h : Orderly s t) : Orderly s (t.slotRequest i q) := by
  unfold State.slotRequest
  dsimp only
  split
  · exact h.takeHostRequest
  · exact h.sendStandIns

theorem Orderly.decide {q : HostRequest} (h : Orderly s t) : Orderly s (t.decide q) := by
  unfold State.decide
  split
  · exact h.answerWindowRead
  · exact h.serveManagement
  · exact h.slotRequest
  · exact h.answerUnrouted

theorem Orderly.arrive {q : HostRequest} (h : Orderly s t) : Orderly s (t.arrive q) := by
  unfold State.arrive
  split
  · exact h.decide
  · exact h.outside

theorem Orderly.retakeFirst (h : Orderly s t) : Orderly s t.retakeFirst := by
  unfold State.retakeFirst
  split
  · exact h.outside
  · next q rest _ =>
    have hlink : Orderly s { t with hostQueue := rest, withheld := none } := h.outside
    exact hlink.decide

theorem Orderly.retakeFor (h : Orderly s t) : Orderly s (t.retakeFor i) := by
  unfold State.retakeFor
  split
  · exact h.retakeFirst
  · exact h

/-! ### The freeing and settling of entries -/

theorem Orderly.handOn {k : Fin 32} (h : Orderly s t) : Orderly s (t.handOn i k) := by
  unfold State.handOn
  dsimp only
  split
  · exact h.onTracker.openController
  · exact h.onTracker.openEntry.retakeFor
  · exact h

theorem Orderly.freeEntry {k : Fin 32} (h : Orderly s t) : Orderly s (t.freeEntry i k) := by
  unfold State.freeEntry
  dsimp only
  split
  · exact h.onTracker.handOn
  · exact h.onTracker

theorem Orderly.endOwner {o : RequestOwner} (h : Orderly s t) : Orderly s (t.endOwner i o) := by
  have hwithdrawn : Orderly s (if (t.slots[i]).trk.waiting.any (·.owner == o) then
      t.onTracker i fun t => { t with waiting := none } else t) := by
    split
    · exact h.onTracker
    · exact h
  unfold State.endOwner
  dsimp only
  split
  · exact hwithdrawn.freeEntry
  · exact hwithdrawn

theorem Orderly.drainHold (h : Orderly s t) : Orderly s (t.drainHold i).state := by
  unfold State.drainHold
  dsimp only
  split
  · exact h
  · exact h.sendStandIns.onTracker.retakeFor

theorem Orderly.settleEntry {r : Settled} {k : Fin 32} (h : Orderly s r.state) :
    Orderly s (State.settleEntry i r k).state := by
  unfold State.settleEntry
  dsimp only
  split
  · exact h
  · split
    · exact h.freeEntry
    · exact h.sendStandIns.freeEntry

theorem Orderly.closeAll (h : Orderly s t) : Orderly s (t.closeAll i).state := by
  have hsettled : ∀ (ks : List (Fin 32)) (r : Settled), Orderly s r.state →
      Orderly s (ks.foldl (State.settleEntry i) r).state := by
    intro ks
    induction ks with
    | nil => exact fun _ hr => hr
    | cons k ks ih => exact fun r hr => ih _ hr.settleEntry
  unfold State.closeAll
  dsimp only
  exact (hsettled _ _ h).onTracker

theorem Orderly.shadowUpdate {kind : EntryKind} (h : Orderly s t) : Orderly s (t.shadowUpdate i kind) := by
  unfold State.shadowUpdate
  split
  · exact h.onSlot
  all_goals exact h

theorem Orderly.reportProgress (h : Orderly s t) : Orderly s (t.reportProgress i) := by
  unfold State.reportProgress
  exact h.onSlot

/-! ### The capture engine -/

theorem Orderly.setCapture {c : Option Capture} (h : Orderly s t) : Orderly s (t.setCapture i c) := by
  unfold State.setCapture
  exact h.onSlot

theorem Orderly.startCapture (h : Orderly s t) : Orderly s (t.startCapture i) := by
  unfold State.startCapture
  exact h.setCapture.issueController

theorem Orderly.endCapture {c : Capture} {outcome : OrderOutcome} {reason : Reason} (h : Orderly s t) :
    Orderly s (t.endCapture i c outcome reason) := by
  unfold State.endCapture
  exact h.setCapture.endOrderOf

theorem Orderly.finishCapture {c : Capture} (h : Orderly s t) : Orderly s (t.finishCapture i c) := by
  unfold State.finishCapture
  exact h.onSlot.endCapture

theorem Orderly.advanceCapture {c : Capture} (h : Orderly s t) : Orderly s (t.advanceCapture i c) := by
  unfold State.advanceCapture
  dsimp only
  split
  · exact h.setCapture.issueController
  · exact h.finishCapture

theorem Orderly.continueCapture {c : Capture} (h : Orderly s t) : Orderly s (t.continueCapture i c) := by
  unfold State.continueCapture
  split
  · exact h.endCapture
  · exact h.advanceCapture

theorem Orderly.recordResult {c : Capture} {k : Fin 64} {result : RequestResult} (h : Orderly s t) :
    Orderly s (t.recordResult i c k result) := by
  unfold State.recordResult
  dsimp only
  split
  · exact h.onSlot.continueCapture
  · exact h.continueCapture

theorem Orderly.captureResult {result : RequestResult} (h : Orderly s t) : Orderly s (t.captureResult i result) := by
  unfold State.captureResult
  split
  · exact h
  · split
    · exact h.onSlot.continueCapture
    · exact h.recordResult

theorem Orderly.captureLeaves (h : Orderly s t) : Orderly s (t.captureLeaves i) := by
  unfold State.captureLeaves
  split
  · exact h
  · dsimp only
    split
    · exact h.endOwner.endCapture
    · exact h.endOwner.endCapture

theorem Orderly.cancelCapture (h : Orderly s t) : Orderly s (t.cancelCapture i) := by
  unfold State.cancelCapture
  split
  · exact h
  · split
    · exact h.setCapture
    · exact h.endOwner.endCapture

/-! ### The Recovery Sequencer -/

theorem Orderly.grant (h : Orderly s t) : Orderly s (t.grant i) := by
  unfold State.grant
  split
  · exact h
  · exact h.setQueue.setPlan.assertLine.raise

theorem Orderly.grantIfIdle (h : Orderly s t) : Orderly s t.grantIfIdle := by
  unfold State.grantIfIdle
  split
  · exact h
  · split
    · exact h.grant
    · exact h

variable {p : Plan}

theorem Orderly.stopPlan (h : Orderly s t) : Orderly s (t.stopPlan p) := by
  unfold State.stopPlan
  exact h.endOwner.setPlan.setSlotState.setAttempt.raise.endOrderOf

theorem Orderly.abandonPlan (h : Orderly s t) : Orderly s (t.abandonPlan p) := by
  unfold State.abandonPlan
  exact h.endOwner.setPlan

theorem Orderly.setAside (h : Orderly s t) : Orderly s t.setAside := by
  unfold State.setAside
  split
  · exact h
  · split
    · split
      · exact h.stopPlan
      · exact h.assertLine.setQueue.setPlan.onSlot
    · exact h

theorem Orderly.arbitrate (h : Orderly s t) : Orderly s t.arbitrate := by
  unfold State.arbitrate
  exact h.setAside.grantIfIdle

theorem Orderly.joinQueue {level : Level} (h : Orderly s t) : Orderly s (t.joinQueue i level) := by
  unfold State.joinQueue
  exact h.setSlotState.setAttempt.setQueue.raise.arbitrate

theorem Orderly.retireAfterFailure {why failure : Reason} {b : Dword} (h : Orderly s t) :
    Orderly s (t.retireAfterFailure p why failure b) := by
  unfold State.retireAfterFailure
  exact h.setPlan.assertLine.setSlotState.fileIncident.raise.endOrderOf.grantIfIdle

theorem Orderly.requeue (h : Orderly s t) : Orderly s (t.requeue p) := by
  unfold State.requeue
  exact h.setPlan.setAttempt.setQueue.grantIfIdle

theorem Orderly.fileFailure {reason : Reason} {c : Option Dword} (h : Orderly s t) :
    Orderly s (t.fileFailure p reason c) := by
  unfold State.fileFailure
  exact h.endOwner.fileIncident

theorem Orderly.failAttempt {reason : Reason} {c : Option Dword} (h : Orderly s t) :
    Orderly s (t.failAttempt p reason c) := by
  unfold State.failAttempt
  dsimp only
  split
  · exact h.fileFailure.retireAfterFailure
  · split
    · exact h.fileFailure.requeue
    · exact h.fileFailure.retireAfterFailure

theorem Orderly.planSucceeds (h : Orderly s t) : Orderly s (t.planSucceeds p) := by
  unfold State.planSucceeds
  exact h.becomeActive.fileIncident.setAttempt.raise.endOrderOf.setPlan.grantIfIdle

theorem Orderly.planIssues (h : Orderly s t) : Orderly s (t.planIssues p) := by
  unfold State.planIssues
  exact h.setPlan.issueController

theorem Orderly.restoreFrom {cursor : Nat} (h : Orderly s t) : Orderly s (t.restoreFrom p cursor) := by
  unfold State.restoreFrom
  dsimp only
  split
  · exact h.planIssues
  · exact h.planSucceeds

theorem Orderly.recordDone (h : Orderly s t) : Orderly s (t.recordDone p) := by
  unfold State.recordDone
  split
  · exact h.restoreFrom
  · exact h.setPlan

theorem Orderly.retryRecord (h : Orderly s t) : Orderly s (t.retryRecord p) := by
  unfold State.retryRecord
  exact h.setPlan

theorem Orderly.identityAnswered {v : Dword} (h : Orderly s t) : Orderly s (t.identityAnswered p v) := by
  unfold State.identityAnswered
  dsimp only
  split
  · exact h.failAttempt
  · exact h.restoreFrom

theorem Orderly.settlingResult {result : RequestResult} (h : Orderly s t) : Orderly s (t.settlingResult p result) := by
  unfold State.settlingResult
  split
  · exact h.identityAnswered
  · exact h.setPlan
  · exact h.failAttempt

theorem Orderly.recordAnswered {v : Dword} (h : Orderly s t) : Orderly s (t.recordAnswered p v) := by
  unfold State.recordAnswered
  split
  · dsimp only
    split
    · exact h.planIssues
    · exact h.recordDone
  · split
    · exact h.recordDone
    · exact h.failAttempt

theorem Orderly.restoringResult {result : RequestResult} (h : Orderly s t) :
    Orderly s (t.restoringResult p result) := by
  unfold State.restoringResult
  split
  · exact h.recordAnswered
  · exact h.retryRecord
  · exact h.failAttempt
  · exact h.failAttempt

theorem Orderly.planEvent {act : Plan → State → State} (h : Orderly s t) (ha : Orderly s (act p t)) :
    Orderly s (t.planEvent p act) := by
  unfold State.planEvent
  split
  · exact h.stopPlan.grantIfIdle
  · exact ha

theorem Orderly.planResult {result : RequestResult} (h : Orderly s t) : Orderly s (t.planResult i result) := by
  unfold State.planResult
  split
  · exact h
  · split
    · refine h.planEvent ?_
      split
      · exact h.settlingResult
      · exact h.restoringResult
      · exact h
      · exact h
    · exact h

theorem Orderly.ownerResult {o : RequestOwner} {result : RequestResult} (h : Orderly s t) :
    Orderly s (t.ownerResult i o result) := by
  cases o with
  | capture => exact h.captureResult
  | plan => exact h.planResult

theorem Orderly.enterSettling (h : Orderly s t) : Orderly s (t.enterSettling p) := by
  unfold State.enterSettling
  exact h.planIssues

theorem Orderly.enterTraining (h : Orderly s t) : Orderly s (t.enterTraining p) := by
  unfold State.enterTraining
  exact h.releaseLine.setPlan

theorem Orderly.adopt {level : Level} (h : Orderly s t) : Orderly s (t.adopt i level) := by
  unfold State.adopt
  split
  · exact h
  · split
    · exact h.setQueue.arbitrate
    · split
      · split
        · exact h.setPlan
        · exact h
      · exact h

theorem Orderly.giveUp {atRemoval : Bool} (h : Orderly s t) : Orderly s (t.giveUp i atRemoval) := by
  unfold State.giveUp
  dsimp only
  split
  · split
    · split
      · exact h.setQueue.stopPlan
      · exact h.setQueue.abandonPlan
    · exact h.setQueue
  · exact h.setQueue

/-! ### The Containment Unit -/

theorem Orderly.announceLeave (h : Orderly s t) : Orderly s (t.announceLeave i) := by
  unfold State.announceLeave
  exact h.onTracker.retakeFor.dropWaitingRead.captureLeaves

theorem Orderly.addTally {completions requests : Nat} (h : Orderly s t) :
    Orderly s (t.addTally i completions requests) := by
  unfold State.addTally
  exact h.onCu

theorem Orderly.abruptClose {st : SlotState} (h : Orderly s t) : Orderly s (t.abruptClose i st).state := by
  unfold State.abruptClose
  dsimp only
  refine Orderly.closeAll (Orderly.drainHold (Orderly.onCu ?_))
  split
  · exact h.setSlotState.announceLeave
  · exact h.setSlotState

theorem Orderly.retireByOrder {taken : SlotState} (h : Orderly s t) : Orderly s (t.retireByOrder i taken) := by
  unfold State.retireByOrder
  exact h.abruptClose.assertLine.fileIncident.raise.endOrderOf

theorem Orderly.applyFollowUp (h : Orderly s t) : Orderly s (t.applyFollowUp i) := by
  unfold State.applyFollowUp
  dsimp only
  split
  · exact h.onCu.retireByOrder
  · exact h.onCu.joinQueue
  · split
    · exact h.onCu.joinQueue
    · exact h.onCu

theorem Orderly.reachFenced (h : Orderly s t) : Orderly s (t.reachFenced i) := by
  unfold State.reachFenced
  exact h.setSlotState.fileIncident.raise.endOrderOf

theorem Orderly.closeFence (h : Orderly s t) : Orderly s (t.closeFence i) := by
  unfold State.closeFence
  exact h.onCu.closeAll.addTally.reachFenced.applyFollowUp

theorem Orderly.beginFence {cause : FenceCause} (h : Orderly s t) : Orderly s (t.beginFence i cause) := by
  unfold State.beginFence
  dsimp only
  split
  · exact h.onCu.announceLeave.drainHold.addTally.closeFence
  · exact h.onCu.announceLeave.drainHold.addTally.onCu

theorem Orderly.endGraceIfEmpty (h : Orderly s t) : Orderly s (t.endGraceIfEmpty i) := by
  unfold State.endGraceIfEmpty
  dsimp only
  split
  · exact h.closeFence
  · exact h

theorem Orderly.takeTrigger (h : Orderly s t) : Orderly s (t.takeTrigger i) := by
  unfold State.takeTrigger
  dsimp only
  split
  · exact h
  · split
    · exact h.onCu.beginFence
    · exact h.onCu

theorem Orderly.planLinkLoss (h : Orderly s t) : Orderly s (t.planLinkLoss i) := by
  unfold State.planLinkLoss
  split
  · exact h
  · split
    · exact h.planEvent h.failAttempt
    · exact h

theorem Orderly.reportLinkLoss (h : Orderly s t) : Orderly s (t.reportLinkLoss i) := by
  unfold State.reportLinkLoss
  split
  · exact h.beginFence
  · split
    · exact h.closeFence
    · exact h
  · exact h.planLinkLoss
  all_goals exact h

theorem Orderly.takeFatalMessage {requesterId : BitVec 16} (h : Orderly s t) :
    Orderly s (t.takeFatalMessage i requesterId) := by
  unfold State.takeFatalMessage
  dsimp only
  split
  · exact h.fileIncident.beginFence
  · exact h.fileIncident

/-! ### The Order Unit -/

theorem Orderly.refuseState {reason : Reason} (h : Orderly s t) : Orderly s (t.refuseState i reason) := by
  unfold State.refuseState
  exact h.endOrder

theorem Orderly.takeSettings (h : Orderly s t) (hw : t.windowOverlap i (t.slots[i]).cells = none)
    (hb : t.busOverlap i (t.slots[i]).cells = none) : Orderly s (t.takeSettings i) :=
  ⟨fun hi => (h.settings hi).takeSettings hw hb, h.upstream⟩

theorem Orderly.orderApply (h : Orderly s t) : Orderly s (t.orderApply i) := by
  unfold State.orderApply
  dsimp only
  split
  · exact h.endOrder
  · split
    · exact h.endOrder
    · next hw =>
      split
      · exact h.endOrder
      · next hb => exact (h.takeSettings hw hb).endOrder

theorem Orderly.orderCapture (h : Orderly s t) : Orderly s (t.orderCapture i) := by
  unfold State.orderCapture
  split
  · exact h.startCapture
  · exact h.refuseState

theorem Orderly.orderFence (h : Orderly s t) : Orderly s (t.orderFence i) := by
  unfold State.orderFence
  split
  · exact h.reportTrigger
  · exact h
  · exact h.endOrder
  all_goals exact h.refuseState

theorem Orderly.setFollowUp {f : FollowUp} (h : Orderly s t) : Orderly s (t.setFollowUp i f) := by
  unfold State.setFollowUp
  exact h.onCu

theorem Orderly.orderRecover {level : Level} (h : Orderly s t) : Orderly s (t.orderRecover i level) := by
  unfold State.orderRecover
  split
  · exact h.joinQueue
  · exact h.joinQueue
  · exact h.setFollowUp.reportTrigger
  · exact h.setFollowUp
  · exact h.adopt
  all_goals exact h.refuseState

theorem Orderly.orderLift (h : Orderly s t) : Orderly s (t.orderLift i) := by
  unfold State.orderLift
  dsimp only
  split
  · split
    · exact h.becomeActive.raise.endOrder
    · exact h.refuseState
  · exact h.refuseState

theorem Orderly.orderRetire (h : Orderly s t) : Orderly s (t.orderRetire i) := by
  unfold State.orderRetire
  split
  · exact h.retireByOrder
  · exact h.retireByOrder
  · exact h.giveUp.retireByOrder.grantIfIdle
  · exact h.setFollowUp.reportTrigger
  · exact h.setFollowUp
  · exact h.endOrder
  · exact h.refuseState

theorem Orderly.orderReinstate (h : Orderly s t) : Orderly s (t.orderReinstate i) := by
  unfold State.orderReinstate
  split
  · exact h.setSlotState.setAttempt.raise.endOrder
  · exact h.refuseState

theorem Orderly.judgeOrder {code : Byte} {level : Level} (h : Orderly s t) : Orderly s (t.judgeOrder i code level) := by
  unfold State.judgeOrder
  split
  · exact h.orderApply
  · exact h.orderCapture
  · exact h.orderFence
  · exact h.orderRecover
  · exact h.orderLift
  · exact h.orderRetire
  · exact h.orderReinstate
  · exact h.endOrder

theorem Orderly.takeOrder {c : OrderCell} (h : Orderly s t) : Orderly s (t.takeOrder i c) := by
  unfold State.takeOrder
  exact h.onOrderUnit.clearAttention.judgeOrder

theorem Orderly.writeOrderCell {w : CellWrite} (h : Orderly s t) : Orderly s (t.writeOrderCell i w) := by
  unfold State.writeOrderCell
  dsimp only
  split
  · split
    · exact h.onOrderUnit
    · split
      · exact h.takeOrder
      · exact h.onOrderUnit
  · exact h

theorem Orderly.handOver {code : Byte} {number : BitVec 16} {priority : Byte} (h : Orderly s t) :
    Orderly s (t.handOver i code number priority) := by
  unfold State.handOver
  exact h.writeOrderCell

theorem Orderly.cancelQueued (h : Orderly s t) : Orderly s (t.cancelQueued i) := by
  unfold State.cancelQueued
  exact h.setQueue.setSlotState.setAttempt.raise.endOrder

theorem Orderly.cancelRecover (h : Orderly s t) : Orderly s (t.cancelRecover i) := by
  unfold State.cancelRecover
  dsimp only
  split
  · exact h.setFollowUp.endOrder
  · exact h.setFollowUp.endOrder
  · split
    · exact h.cancelQueued
    · split
      · split
        · exact h.setPlan
        · exact h
      · exact h
  all_goals exact h

theorem Orderly.takeCancel (h : Orderly s t) : Orderly s (t.takeCancel i) := by
  unfold State.takeCancel
  dsimp only
  split
  · split
    · exact h.onOrderUnit.cancelCapture
    · split
      · exact h.onOrderUnit.cancelRecover
      · exact h.onOrderUnit
  · exact h

end

end Sys2Proof.Machine

/-! PROOF. The resets, software writes, traffic, port events and expiries are orderly; so is every command, and every step
keeps the settings. -/

namespace Sys2Proof.Machine

open Sys2Proof

section
variable {s t : State} {i : SlotId}

/-! ### Resets -/

theorem getElem_mapVector {α β : Type} {n : Nat} (f : α → β) (v : Vector α n) (j : Fin n) :
    (mapVector f v)[j] = f v[j] := by
  simp [mapVector]

/-- A change of every slot that leaves its settings in force as they are. -/
theorem Orderly.mapSlots {u : State} (h : Orderly s t) (f : Slot → Slot) (hf : ∀ sl, (f sl).inForce = sl.inForce)
    (hs : u.slots = mapVector f t.slots := by rfl) (hd : u.device = t.device := by rfl)
    (hu : u.wires.upstream = t.wires.upstream := by rfl) : Orderly s u :=
  h.of_kept (fun j => by rw [hs, getElem_mapVector, hf]) hd hu

theorem Orderly.hierarchyReset (h : Orderly s t) : Orderly s t.hierarchyReset :=
  h.mapSlots (fun sl => sl.hierarchyReset t.now) fun _ => rfl

theorem Orderly.linkReset (h : Orderly s t) : Orderly s t.linkReset := h.hierarchyReset.outside

theorem Orderly.commandedReset (h : Orderly s t) : Orderly s t.commandedReset := by
  unfold State.commandedReset
  dsimp only
  split
  · exact h.hierarchyReset.retakeFirst
  · exact h.hierarchyReset

/-- R163: the clamped Device Settings are within their ranges. -/
theorem SettingsInv.applyDevice (h : SettingsInv s) : SettingsInv s.applyDevice := by
  rw [settingsInv_iff] at h ⊢
  obtain ⟨apart, slot, -⟩ := h
  exact ⟨apart, slot, toNat_clampTo 100 4194303 _ (by decide) (by decide),
    toNat_clampTo 1 1000 _ (by decide) (by decide)⟩

theorem Orderly.applyDevice (h : Orderly s t) : Orderly s t.applyDevice :=
  ⟨fun hi => (h.settings hi).applyDevice, h.upstream⟩

theorem Orderly.powerOn (h : Orderly s t) : Orderly s t.powerOn :=
  ⟨fun _ => settingsInv_reset.of_inForce_eq (fun _ => rfl) rfl, h.upstream⟩

/-! ### Software writes -/

theorem Orderly.writeAttn {enables : BitVec 4} {value : Dword} (h : Orderly s t) :
    Orderly s (t.writeAttn enables value) := by
  unfold State.writeAttn
  exact h.outside

theorem Orderly.writeAttnEnable {enables : BitVec 4} {value : Dword} (h : Orderly s t) :
    Orderly s (t.writeAttnEnable enables value) := by
  unfold State.writeAttnEnable
  exact h.outside

theorem Orderly.writeIncidentState {k : Fin 8} {v : Byte} (h : Orderly s t) :
    Orderly s (t.writeIncidentState i k v) := by
  unfold State.writeIncidentState
  exact h.onSlot

theorem Orderly.writeCancel {v : Byte} (h : Orderly s t) : Orderly s (t.writeCancel i v) := by
  unfold State.writeCancel
  split
  · exact h.onOrderUnit
  · exact h

theorem Orderly.writeRecordByte {k : Fin 64} {off : Nat} {v : Byte} (h : Orderly s t) :
    Orderly s (t.writeRecordByte i k off v) := by
  unfold State.writeRecordByte
  exact h.onSlot

/-- R151: what a byte of a slot page stores is a cell, never a setting in force. -/
theorem Orderly.storePageByte {off : Nat} {v : Byte} (h : Orderly s t) : Orderly s (t.storePageByte i off v) := by
  unfold State.storePageByte
  split
  · exact h
  split
  · split
    · exact h.writeCancel
    · exact h
  split
  · exact h
  split
  · exact h.onSlot
  split
  · exact h
  split
  · split
    · exact h.writeIncidentState
    · exact h
  split
  · exact h.onSlot
  split
  · exact h.writeRecordByte
  · exact h

theorem Orderly.storeDeviceByte {a : Nat} {v : Byte} (h : Orderly s t) : Orderly s (t.storeDeviceByte a v) := by
  unfold State.storeDeviceByte
  split
  · exact h.writeAttn
  split
  · exact h.writeAttnEnable
  split
  · exact h.outside
  · exact h

theorem Orderly.storeByte {a : Nat} {v : Byte} (h : Orderly s t) : Orderly s (t.storeByte a v) := by
  unfold State.storeByte
  split
  · exact h.storeDeviceByte
  · split
    · exact h.storePageByte
    · exact h

theorem Orderly.deviceControl {v : Byte} (h : Orderly s t) : Orderly s (t.deviceControl v) := by
  have happlied : Orderly s (if v.getLsbD 0 then t.applyDevice else t) := by
    split
    · exact h.applyDevice
    · exact h
  unfold State.deviceControl
  dsimp only
  split
  · exact happlied.commandedReset
  · exact happlied

theorem Orderly.deviceControlOf {ws : List (Nat × Byte)} (h : Orderly s t) : Orderly s (t.deviceControlOf ws) := by
  unfold State.deviceControlOf
  split
  · exact h.deviceControl
  · exact h

theorem Orderly.writeWindow {w : WindowWrite} (h : Orderly s t) : Orderly s (t.writeWindow w) := by
  unfold State.writeWindow
  refine Orderly.foldl (Orderly.deviceControlOf (Orderly.foldl h ?_)) ?_
  · exact fun _ _ hu => hu.storeByte
  · exact fun _ _ hu => hu.writeOrderCell

/-! ### Card traffic -/

theorem Orderly.forwardMatched {b : OrtBody} {c : Completion} (h : Orderly s t) : Orderly s (t.forwardMatched b c) := by
  unfold State.forwardMatched
  split
  · exact h
  · split
    · exact h
    · exact h.emitCompletions.outside

theorem Orderly.keepOpen {k : Fin 32} {b : OrtBody} {c : Completion} (h : Orderly s t) :
    Orderly s (t.keepOpen i k b c) := by
  unfold State.keepOpen
  exact h.onTracker

theorem Orderly.shadowOf {b : OrtBody} {c : Completion} (h : Orderly s t) : Orderly s (t.shadowOf i b c) := by
  unfold State.shadowOf
  split
  · exact h
  · split
    · exact h.shadowUpdate
    · exact h

theorem Orderly.fileOverrun {k : Fin 32} {b : OrtBody} {c : Completion} (h : Orderly s t) :
    Orderly s (t.fileOverrun i k b c) := by
  unfold State.fileOverrun
  split
  · exact h.countOverrun.fileIncident
  · exact h

theorem Orderly.passResult {b : OrtBody} {c : Completion} (h : Orderly s t) : Orderly s (t.passResult i b c) := by
  unfold State.passResult
  split
  · exact h.ownerResult
  · exact h

theorem Orderly.takeMatched {k : Fin 32} {b : OrtBody} {c : Completion} (h : Orderly s t) :
    Orderly s (t.takeMatched i k b c) := by
  unfold State.takeMatched
  dsimp only
  split
  · exact h.forwardMatched.freeEntry.shadowOf.fileOverrun.passResult
  · exact h.forwardMatched.keepOpen

theorem Orderly.afterMatched {st : SlotState} (h : Orderly s t) : Orderly s (t.afterMatched i st) := by
  unfold State.afterMatched
  split
  · exact h.reportProgress
  · exact h.reportProgress.endGraceIfEmpty
  all_goals exact h

theorem Orderly.cardCompletion {c : Completion} (h : Orderly s t) : Orderly s (t.cardCompletion i c) := by
  unfold State.cardCompletion
  dsimp only
  split
  · split
    · exact h.takeMatched.afterMatched
    · exact h.countLate
  · exact h.countLate

theorem Orderly.cardPosted {p : HostPacket} (h : Orderly s t) (hp : ∀ a d, p ≠ .interrupt a d) :
    Orderly s (t.cardPosted i p) := by
  unfold State.cardPosted
  split
  · exact h.emit hp
  · exact h.countCardDropped

theorem Orderly.cardMessage {m : CardMessage} (h : Orderly s t) : Orderly s (t.cardMessage i m) := by
  have hposted : Orderly s (t.cardPosted i (.message m)) := h.cardPosted fun _ _ => nofun
  unfold State.cardMessage
  dsimp only
  split
  · exact hposted.takeFatalMessage
  · exact hposted

theorem Orderly.cardOther {requesterId : BitVec 16} {tag : BitVec 10} {nonPosted : Bool} (h : Orderly s t) :
    Orderly s (t.cardOther i requesterId tag nonPosted) := by
  unfold State.cardOther
  split
  · exact h.pushOutbound
  · exact h.countCardDropped

/-! ### Host traffic -/

theorem Orderly.slotPosted {p : CardPacket} (h : Orderly s t) : Orderly s (t.slotPosted i p) := by
  unfold State.slotPosted
  split
  · exact h.pushOutbound
  · exact h.countPostedDiscarded

theorem Orderly.hostMemWrite {r : MemRequest} {data : List Dword} (h : Orderly s t) :
    Orderly s (t.hostMemWrite r data) := by
  unfold State.hostMemWrite
  split
  · exact h.writeWindow
  · exact h.slotPosted
  · exact h.countUnrouted
  · exact h.countUnrouted

theorem Orderly.hostMessage {m : HostMessage} (h : Orderly s t) : Orderly s (t.hostMessage m) := by
  unfold State.hostMessage
  split
  · exact h
  · split
    · exact h.slotPosted
    · exact h.countUnrouted
  · exact h.foldl fun _ _ hu => hu.slotPosted

theorem Orderly.returnMatched {k : Fin 16} {b : ReturnBody} {c : Completion} (h : Orderly s t) :
    Orderly s (t.returnMatched i k b c) := by
  have htaken : Orderly s (if (t.slots[i]).cu.st = .active then
      t.pushOutbound i (.completion { c with requesterId := b.requesterId, tag := b.tag }) else t.countStale i) := by
    split
    · exact h.pushOutbound
    · exact h.countStale
  unfold State.returnMatched
  dsimp only
  split
  · exact htaken.freeReturn
  · exact htaken.onSlot

theorem Orderly.hostCompletion {c : Completion} (h : Orderly s t) : Orderly s (t.hostCompletion c) := by
  unfold State.hostCompletion
  dsimp only
  split
  · split
    · exact h.returnMatched
    · exact h.countStale
  · exact h.countStale

/-! ### Port events -/

theorem Orderly.cardArrives (h : Orderly s t) : Orderly s (t.cardArrives i) := by
  unfold State.cardArrives
  exact h.setSlotState.fileIncident.raise

theorem Orderly.removalGivesUp (h : Orderly s t) : Orderly s (t.removalGivesUp i) := by
  unfold State.removalGivesUp
  refine Orderly.setAttempt ?_
  split
  · exact h.giveUp
  · exact h

theorem Orderly.removalReports {st : SlotState} {ph : Phase} {made : Nat} (h : Orderly s t) :
    Orderly s (t.removalReports i st ph made) := by
  unfold State.removalReports
  exact h.assertLine.endOrder.fileIncident.raise

theorem Orderly.cardRemoved (h : Orderly s t) : Orderly s (t.cardRemoved i) := by
  unfold State.cardRemoved
  dsimp only
  split
  · exact h.removalGivesUp.abruptClose.removalReports.grantIfIdle
  · exact h.removalGivesUp.abruptClose.removalReports

theorem Orderly.presenceSample {reading : Presence} (h : Orderly s t) : Orderly s (t.presenceSample i reading) := by
  have hport : Orderly s (t.onPort i fun q => q.sampled reading) := h.onPort
  have hsampled : Orderly s { (t.onPort i fun q => q.sampled reading) with
      wires.presence := t.wires.presence.set i reading } := hport.outside
  unfold State.presenceSample
  dsimp only
  split
  · split
    · exact hsampled.cardArrives
    · exact hsampled.cardRemoved
  · exact hsampled

theorem Orderly.linkBecomesUp (h : Orderly s t) : Orderly s (t.linkBecomesUp i) := by
  unfold State.linkBecomesUp
  exact h.onPort

theorem Orderly.tellLinkUp (h : Orderly s t) : Orderly s (t.tellLinkUp i) := by
  unfold State.tellLinkUp
  split
  · split
    · exact h.planEvent h.enterSettling
    · exact h
  · exact h

theorem Orderly.fileLinkDown (h : Orderly s t) : Orderly s (t.fileLinkDown i) := by
  unfold State.fileLinkDown
  exact h.fileIncident

theorem Orderly.drainOutbound {count : Nat} (h : Orderly s t) : Orderly s (t.drainOutbound i count) := by
  unfold State.drainOutbound
  have hdrained : Orderly s (t.onPort i fun q => { q with outbound := (t.slots[i]).port.outbound.drop count }) := h.onPort
  exact hdrained.outside

/-! ### The sequencer's timers -/

theorem Orderly.startReached (h : Orderly s t) : Orderly s (t.startReached i) := by
  unfold State.startReached
  split
  · split
    · exact h.setQueue.arbitrate
    · exact h
  · exact h

theorem Orderly.onPlanTimer {timer : Plan → Option Tick} {act : Plan → State → State} (h : Orderly s t)
    (ha : ∀ p, Orderly s (act p t)) : Orderly s (t.onPlanTimer timer act) := by
  unfold State.onPlanTimer
  split
  · split
    · exact h.planEvent (ha _)
    · exact h
  · exact h

theorem Orderly.retryRequest {p : Plan} (h : Orderly s t) : Orderly s (t.retryRequest p) := by
  unfold State.retryRequest
  exact h.planIssues

theorem Orderly.delayEnds {p : Plan} (h : Orderly s t) : Orderly s (t.delayEnds p) := by
  unfold State.delayEnds
  exact h.restoreFrom

/-! ### The Tracker's timers -/

theorem Orderly.reportExpiry {reason : Reason} {index : Nat} {b : OrtBody} (h : Orderly s t) :
    Orderly s (t.reportExpiry i reason index b) := by
  unfold State.reportExpiry
  exact h.countTimeout.fileIncident

theorem Orderly.applyTimeoutAction (h : Orderly s t) : Orderly s (t.applyTimeoutAction i) := by
  unfold State.applyTimeoutAction
  dsimp only
  split
  · exact h.reportTrigger
  · split
    · exact h.onTracker.reportTrigger
    · exact h.onTracker

theorem Orderly.afterExpiry {st : SlotState} (h : Orderly s t) : Orderly s (t.afterExpiry i st) := by
  unfold State.afterExpiry
  split
  · exact h.applyTimeoutAction
  · exact h.endGraceIfEmpty
  all_goals exact h

theorem Orderly.settleExpired {k : Fin 32} {b : OrtBody} (h : Orderly s t) : Orderly s (t.settleExpired i k b) := by
  unfold State.settleExpired
  dsimp only
  split
  · exact h.sendStandIns.freeEntry.addTally
  · exact h.sendStandIns.freeEntry

theorem Orderly.expireEntry {k : Fin 32} {b : OrtBody} (h : Orderly s t) : Orderly s (t.expireEntry i k b) := by
  unfold State.expireEntry
  exact h.settleExpired.reportExpiry.afterExpiry

theorem Orderly.settleHeld {position : Nat} {item : HoldItem} (h : Orderly s t) :
    Orderly s (t.settleHeld i position item) := by
  unfold State.settleHeld
  exact h.sendStandIns.onTracker.retakeFor

theorem Orderly.expireHeld {position : Nat} {item : HoldItem} (h : Orderly s t) :
    Orderly s (t.expireHeld i position item) := by
  unfold State.expireHeld
  exact h.settleHeld.reportExpiry.afterExpiry

theorem Orderly.expireController {k : Fin 32} {o : RequestOwner} {b : OrtBody} (h : Orderly s t) :
    Orderly s (t.expireController i k o b) := by
  unfold State.expireController
  exact h.freeEntry.reportExpiry.ownerResult.afterExpiry

theorem Orderly.expireWatch (h : Orderly s t) : Orderly s (t.expireWatch i) := by
  unfold State.expireWatch
  exact h.onTracker.fileIncident.reportTrigger

theorem Orderly.expireReturn {k : Fin 16} {b : ReturnBody} (h : Orderly s t) : Orderly s (t.expireReturn i k b) := by
  unfold State.expireReturn
  exact h.fileIncident.freeReturn

end

/-! ### Commands and steps -/

theorem Orderly.ite {s t u : State} {p : Prop} [Decidable p] (ht : Orderly s t) (hu : Orderly s u) :
    Orderly s (if p then t else u) := by
  split <;> assumption

/-- Every command is an event with an orderly effect. -/
theorem exec_orderly (c : Instr) (s : State) : ∃ u, Orderly s u ∧ exec c s = .next (settleInterrupt s u) := by
  have h : Orderly s s := .refl s
  cases c with
  | powerOnReset => exact ⟨_, h.powerOn, rfl⟩
  | upstreamHotReset => exact ⟨_, h.linkReset, rfl⟩
  | upstreamLinkDown => exact ⟨_, h.linkReset, rfl⟩
  | hierarchyReset applyToo => exact ⟨_, h.deviceControl, rfl⟩
  | applyDevice => exact ⟨_, h.deviceControl, rfl⟩
  | attnWrite enables value => exact ⟨_, h.writeAttn, rfl⟩
  | attnEnableWrite enables value => exact ⟨_, h.writeAttnEnable, rfl⟩
  | orderApply i number priority => exact ⟨_, h.handOver, rfl⟩
  | orderCapture i number priority => exact ⟨_, h.handOver, rfl⟩
  | orderFence i number priority => exact ⟨_, h.handOver, rfl⟩
  | orderRecover i number priority => exact ⟨_, h.handOver, rfl⟩
  | orderLift i number priority => exact ⟨_, h.handOver, rfl⟩
  | orderRetire i number priority => exact ⟨_, h.handOver, rfl⟩
  | orderReinstate i number priority => exact ⟨_, h.handOver, rfl⟩
  | orderUnknownCode i code number priority => exact ⟨_, h.handOver, rfl⟩
  | orderCellWrite i w => exact ⟨_, h.writeOrderCell, rfl⟩
  | cancelCellWrite i value => exact ⟨_, h.writeCancel, rfl⟩
  | cancelTaken i => exact ⟨_, h.takeCancel, rfl⟩
  | incidentStateWrite i k value => exact ⟨_, h.writeIncidentState, rfl⟩
  | swaWrite w => exact ⟨_, h.writeWindow, rfl⟩
  | hostMemRead r => exact ⟨_, h.arrive, rfl⟩
  | hostMemWrite r data => exact ⟨_, h.hostMemWrite, rfl⟩
  | hostCfgRead r => exact ⟨_, h.arrive, rfl⟩
  | hostCfgWrite r data => exact ⟨_, h.arrive, rfl⟩
  | hostMessage m => exact ⟨_, h.hostMessage, rfl⟩
  | hostUnrecognisedRequest requesterId tag nonPosted => exact ⟨_, h.arrive.ite h.countUnrouted, rfl⟩
  | hostCompletion c => exact ⟨_, h.hostCompletion, rfl⟩
  | cardCompletion i c => exact ⟨_, h.cardCompletion, rfl⟩
  | cardMemRead i r => exact ⟨_, h.ite h.takeCardRead, rfl⟩
  | cardMemWrite i r data => exact ⟨_, h.cardPosted (p := .memWrite r data) fun _ _ => nofun, rfl⟩
  | cardMessage i m => exact ⟨_, h.cardMessage, rfl⟩
  | cardConfigRequest i requesterId tag nonPosted => exact ⟨_, h.ite h.cardOther, rfl⟩
  | waitingHostRequestRetaken => exact ⟨_, h.retakeFirst, rfl⟩
  | cardReadHandover i => exact ⟨_, h.handOverRead, rfl⟩
  | presenceSample i reading => exact ⟨_, h.presenceSample, rfl⟩
  | linkUp i => exact ⟨_, h.linkBecomesUp.tellLinkUp.ite h, rfl⟩
  | linkLoss i => exact ⟨_, h.takeLinkDown.fileLinkDown.reportLinkLoss.ite h, rfl⟩
  | deadlineExpiry i k =>
    refine ⟨_, ?_, rfl⟩
    dsimp only
    split
    · exact h.expireEntry
    · exact h
  | heldItemExpiry i position =>
    refine ⟨_, ?_, rfl⟩
    dsimp only
    split
    · exact h.expireHeld
    · exact h
  | controllerEntryExpiry i k =>
    refine ⟨_, ?_, rfl⟩
    dsimp only
    split
    · exact h.expireController
    · exact h
  | progressWatchExpiry i => exact ⟨_, h.expireWatch.ite h, rfl⟩
  | fenceTrigger i => exact ⟨_, h.takeTrigger, rfl⟩
  | graceExpiry i => exact ⟨_, h.closeFence.ite h, rfl⟩
  | returnLifetimeExpiry i k =>
    refine ⟨_, ?_, rfl⟩
    dsimp only
    split
    · exact h.expireReturn
    · exact h
  | earliestStartReached i => exact ⟨_, h.startReached, rfl⟩
  | planGrant => exact ⟨_, h.grantIfIdle, rfl⟩
  | holdTickExpiry => exact ⟨_, h.onPlanTimer fun _ => h.enterTraining, rfl⟩
  | trainLimitExpiry => exact ⟨_, h.onPlanTimer fun _ => h.failAttempt, rfl⟩
  | settleLimitExpiry => exact ⟨_, h.onPlanTimer fun _ => h.failAttempt, rfl⟩
  | retryTickExpiry => exact ⟨_, h.onPlanTimer fun _ => h.retryRequest, rfl⟩
  | delayTickExpiry => exact ⟨_, h.onPlanTimer fun _ => h.delayEnds, rfl⟩
  | retryLimitExpiry => exact ⟨_, h.onPlanTimer fun _ => h.failAttempt, rfl⟩
  | outboundBufferDrain i count => exact ⟨_, h.drainOutbound.ite h, rfl⟩

/-- Every command keeps the settings in force within their ranges. -/
theorem SettingsInv.exec {c : Instr} {s t : State} (h : SettingsInv s) (ht : exec c s = .next t) : SettingsInv t := by
  obtain ⟨u, hu, he⟩ := exec_orderly c s
  rw [he, settleInterrupt_eq] at ht
  cases ht
  exact (hu.settings h).of_inForce_eq (fun _ => rfl) rfl

/-- One microsecond leaves the settings as they are. -/
theorem SettingsInv.tick {s : State} (h : SettingsInv s) : SettingsInv s.tick :=
  ((Orderly.refl s).mapSlots (u := s.tick) (fun sl => { sl with port.sampleTimer := sl.port.sampleTimer - 1 })
    fun _ => rfl).settings h

/-- Settles O57: every command's effect is orderly, and a step is a command or the passing of a microsecond. -/
theorem settingsKept : Obligations.SettingsKept := by
  intro s t hs ht
  unfold step at ht
  split at ht
  · next rest _ =>
    have hrest : SettingsInv { s with pending := rest } := hs.of_inForce_eq (fun _ => rfl) rfl
    exact hrest.exec ht
  · split at ht
    · exact hs.exec ht
    · cases ht
      exact hs.tick

/-- Settles O8: an orderly effect adds no interrupt message, and the event sends its own last. -/
theorem upstreamOnlyGrows : Obligations.UpstreamOnlyGrows := by
  intro c s t ht
  obtain ⟨u, hu, he⟩ := exec_orderly c s
  obtain ⟨sent, hsent, hup⟩ := hu.upstream
  rw [he, settleInterrupt_eq] at ht
  cases ht
  refine ⟨sent, hsent, ?_⟩
  rw [withInterrupt_upstream, hup]
  rfl

end Sys2Proof.Machine

/-! PROOF. Host requests: their routing, their arrival, and the answers of the Upstream Port (chapter 1, R6 to R13, R84). -/

namespace Sys2Proof.Machine

open Sys2Proof

section
variable (s : State) (i : SlotId)

/-! ### Counts and outcomes -/

/-- One rise of a saturating dword (R173). -/
theorem satAdd_one_dword (c : Dword) : satAdd c 1 = if c = 0xFFFFFFFF then c else c + 1 := by
  unfold satAdd
  split
  · next h => subst h; rfl
  · next h =>
    have hlt : c.toNat + 1 ≤ 2 ^ 32 - 1 := by
      have hne : c.toNat ≠ 4294967295 := fun hc => h (BitVec.eq_of_toNat_eq hc)
      omega
    rw [min_eq_left hlt, BitVec.ofNat_add, BitVec.ofNat_toNat, BitVec.setWidth_eq]
    rfl

/-- The outcome of an event that changes one slot and sends packets, in the terms of claims. -/
theorem event_next_slotAfter {f : State → State} {sl : Slot} {ps : List HostPacket}
    (h : f s = { s with slots := s.slots.set i sl, wires.upstream := s.wires.upstream ++ ps }) :
    event f s = .next (slotAfter s i sl s.attn 0 ps) := by
  rw [event_next h]
  simp [slotAfter]

/-- The outcome of an event that changes one slot and sends nothing, in the terms of claims. -/
theorem event_next_slotAfter_of_onSlot {f : State → State} {g : Slot → Slot} (h : f s = s.onSlot i g) :
    event f s = .next (slotAfter s i (g s.slots[i]) s.attn 0 []) := by
  apply event_next_slotAfter
  rw [h, State.onSlot, List.append_nil]

/-- The outcome of an event that changes one slot and sends nothing. -/
theorem event_next_of_onSlot {f : State → State} {g : Slot → Slot} (h : f s = s.onSlot i g) :
    event f s = .next { s with slots := s.slots.set i (g s.slots[i]) } :=
  event_next_of_kept h rfl rfl

/-- Events with one effect on a state have one outcome from it. -/
theorem event_congr {f g : State → State} (h : f s = g s) : event f s = event g s := by
  rw [event_eq, event_eq, h]

/-- The outcome of an event that has no effect. -/
theorem event_next_self {f : State → State} (h : f s = s) : event f s = .next s := event_next_of_kept h rfl rfl

/-! ### The arrival of a host request (R13, R23) -/

variable {s i} {q : NonPosted}

theorem exec_hostCommand (q : NonPosted) (s : State) :
    exec (hostCommand q) s = event (fun s => s.arrive (.known q)) s := by
  cases q <;> rfl

theorem State.arrive_of_empty {q : HostRequest} (h : s.hostQueue = []) : s.arrive q = s.decide q := by
  simp [State.arrive, h]

theorem State.decide_of_slot (h : s.target (.known q) = .slot i) : s.decide (.known q) = s.slotRequest i q := by
  simp only [State.decide, h]

theorem State.decide_of_unrouted {q : HostRequest} (h : s.target q = .unrouted) : s.decide q = s.answerUnrouted q := by
  simp only [State.decide, h]

theorem State.slotRequest_of_active (h : (s.slots[i]).cu.st = .active) : s.slotRequest i q = s.takeHostRequest i q :=
  if_pos h

theorem State.slotRequest_of_not_active (h : (s.slots[i]).cu.st ≠ .active) :
    s.slotRequest i q =
      s.sendStandIns i (newStandIns (s.slots[i]).inForce.standinMode (s.slots[i]).inForce.busFirst q) :=
  if_neg h

/-- R21: with an empty Hold Queue and a FREE entry the request opens the entry. -/
theorem State.takeHostRequest_of_free {k : Fin 32} (hh : (s.slots[i]).trk.hold = []) (hk : LowestFree s.slots[i] k) :
    s.takeHostRequest i q = s.onSlot i fun sl =>
      sl.withOpened s.now k (requestBody s s.slots[i] q)
        (requestSent s s.slots[i] (downstreamTag (sl.trk.ort[k]).gen k) q) := by
  have hf := (lowestFree_eq_some s.slots[i] k).mpr hk
  unfold State.takeHostRequest
  simp only [hh, hf]
  rw [hostBody_eq, openEntry_eq]
  rfl

/-- Settles O22: the request reaches the Tracker of its slot and opens the entry, which changes that slot alone. -/
theorem hostRequestOpensEntry : Obligations.HostRequestOpensEntry := by
  intro i k q s sl hq ht hst hh hk
  rw [exec_hostCommand]
  apply event_next_slotAfter_of_onSlot (g := fun sl => sl.withOpened s.now k (requestBody s s.slots[i] q)
    (requestSent s s.slots[i] (downstreamTag (sl.trk.ort[k]).gen k) q))
  rw [State.arrive_of_empty hq, State.decide_of_slot ht, State.slotRequest_of_active hst,
    State.takeHostRequest_of_free hh hk]

/-- Settles O24: the slot's stand-ins are sent and counted. -/
theorem hostRequestAnsweredByStandIns : Obligations.HostRequestAnsweredByStandIns := by
  intro i q s sl cs hq ht hst
  rw [exec_hostCommand]
  apply event_next_slotAfter
  rw [State.arrive_of_empty hq, State.decide_of_slot ht, State.slotRequest_of_not_active hst]
  rfl

/-! ### Traffic without a target (R6, R11) -/

/-- R11: an unrouted non-posted request is answered and counted in one event. -/
theorem event_answerUnrouted {f : State → State} {q : HostRequest} (h : f s = s.answerUnrouted q) :
    event f s = .next { s with
      unrouted := if s.unrouted = 0xFFFFFFFF then s.unrouted else s.unrouted + 1,
      wires := { s.wires with upstream := s.wires.upstream ++ [.completion (unroutedAnswer q)] } } :=
  event_next_of_kept h rfl rfl

/-- R11: an event that counts unrouted posted traffic. -/
theorem event_countUnrouted {f : State → State} (h : f s = s.countUnrouted) :
    event f s = .next { s with unrouted := if s.unrouted = 0xFFFFFFFF then s.unrouted else s.unrouted + 1 } :=
  event_next_of_kept h rfl rfl

theorem State.busSlot_eq_none {bus : Byte} :
    s.busSlot bus = none ↔ ∀ k : SlotId, inRange (busRangeOf (s.slots[k]).inForce) bus = false :=
  find_finRange_eq_none _

theorem State.arrive_of_unrouted {q : HostRequest} (hq : s.hostQueue = []) (ht : s.target q = .unrouted) :
    s.arrive q = s.answerUnrouted q := by
  rw [State.arrive_of_empty hq, State.decide_of_unrouted ht]

theorem State.hostMemWrite_of_unrouted {r : MemRequest} {data : List Dword} (h : s.memTarget r.address = .unrouted) :
    s.hostMemWrite r data = s.countUnrouted := by
  simp only [State.hostMemWrite, h]

theorem State.hostMessage_of_no_slot {m : HostMessage} {bus : Byte} (hm : m.routing = .toBus bus)
    (hb : s.busSlot bus = none) : s.hostMessage m = s.countUnrouted := by
  simp only [State.hostMessage, hm, hb]

/-- Settles O25: each kind of unrouted traffic comes to an answer and a count, or to a count alone. -/
theorem unroutedTraffic : Obligations.UnroutedTraffic := by
  intro q r data rid tag bus cls s counted answered
  refine ⟨fun hq ht => ?known, fun hq => ?unrecognised, ?posted, fun ht => ?write, fun hb => ?message⟩
  case known =>
    rw [exec_hostCommand, event_answerUnrouted (f := fun s => s.arrive (.known q)) (State.arrive_of_unrouted hq ht)]
    cases q <;> rfl
  case unrecognised =>
    exact event_answerUnrouted (f := fun s => s.arrive (.unrecognised rid tag)) (State.arrive_of_unrouted hq rfl)
  case posted => exact event_countUnrouted (f := State.countUnrouted) rfl
  case write => exact event_countUnrouted (f := fun s => s.hostMemWrite r data) (State.hostMemWrite_of_unrouted ht)
  case message =>
    exact event_countUnrouted (f := fun s => s.hostMessage { cls := cls, requesterId := rid, routing := .toBus bus })
      (State.hostMessage_of_no_slot rfl (State.busSlot_eq_none.mpr hb))

/-! ### The windows and bus ranges in force (R7 to R10) -/

/-- R7: the low bits of a window's base do not count. -/
theorem toNat_and_not_block (b : BitVec 64) : (b &&& ~~~ 0xFFF#64).toNat = b.toNat / 4096 * 4096 := by
  have hbits : b &&& ~~~ 0xFFF#64 = (b >>> 12) <<< 12 := by
    have hmask : ∀ k : Fin 64, (0xFFF#64)[k] = decide (k.val < 12) := by decide
    ext k hk
    have := hmask ⟨k, hk⟩
    simp only [Fin.getElem_fin] at this
    simp only [BitVec.getElem_and, BitVec.getElem_not, this, BitVec.getElem_shiftLeft]
    by_cases h12 : k < 12
    · simp [h12]
    · simp [h12, show 12 + (k - 12) = k by omega, BitVec.getLsbD_eq_getElem hk]
  have hlt := b.isLt
  rw [hbits, BitVec.toNat_shiftLeft, BitVec.toNat_ushiftRight, Nat.shiftRight_eq_div_pow, Nat.shiftLeft_eq]
  omega

/-- R7: a window reaches to the end of its limit's block. -/
theorem toNat_or_block (b : BitVec 64) : (b ||| 0xFFF#64).toNat = b.toNat / 4096 * 4096 + 4095 := by
  have hbits : b.toNat ||| 4095 = (b.toNat / 4096) <<< 12 + 4095 := by
    rw [Nat.shiftLeft_add_eq_or_of_lt (by decide)]
    apply Nat.eq_of_testBit_eq
    intro k
    have hmask := Nat.testBit_two_pow_sub_one 12 k
    norm_num at hmask
    by_cases h12 : k < 12
    · simp [Nat.testBit_or, hmask, h12]
    · have hdiv : (b.toNat / 4096).testBit (k - 12) = b.toNat.testBit k := by
        rw [show 4096 = 2 ^ 12 by rfl, Nat.testBit_div_two_pow, Nat.sub_add_cancel (by omega)]
      simp [Nat.testBit_or, Nat.testBit_shiftLeft, hmask, h12, hdiv, show 12 ≤ k by omega]
  rw [BitVec.toNat_or, show (0xFFF#64).toNat = 4095 by rfl, hbits, Nat.shiftLeft_eq]

/-- R7: a memory window holds the addresses of its blocks. -/
theorem inRange_windowOf (f : SlotSettings) (a : BitVec 64) :
    inRange (windowOf f) a = true ↔
      f.windowBase.toNat / 4096 ≤ a.toNat / 4096 ∧ a.toNat / 4096 ≤ f.windowLimit.toNat / 4096 := by
  simp only [windowOf, BitVec.lt_def, toNat_and_not_block, toNat_or_block]
  split
  · simp only [inRange, Option.any_none, Bool.false_eq_true, false_iff]
    omega
  · simp only [inRange, Option.any_some, Bool.and_eq_true, decide_eq_true_eq, BitVec.le_def, toNat_and_not_block,
      toNat_or_block]
    omega

/-- R7: a bus range holds its buses. -/
theorem inRange_busRangeOf (f : SlotSettings) (b : Byte) :
    inRange (busRangeOf f) b = true ↔ f.busFirst.toNat ≤ b.toNat ∧ b.toNat ≤ f.busLast.toNat := by
  simp only [busRangeOf, BitVec.lt_def]
  split
  · simp only [inRange, Option.any_none, Bool.false_eq_true, false_iff]
    omega
  · simp only [inRange, Option.any_some, Bool.and_eq_true, decide_eq_true_eq, BitVec.le_def]

/-- A search over the slots of which at most one passes finds the one that passes. -/
theorem find_slot_eq_some {p : SlotId → Bool} (i : SlotId) (h : ∀ j k, j ≠ k → ¬ (p j = true ∧ p k = true)) :
    (List.finRange 8).find? p = some i ↔ p i = true := by
  rw [find_finRange_eq_some]
  exact ⟨And.left, fun hi => ⟨hi, fun j hj => Bool.eq_false_iff.mpr fun hj' => h j i hj.ne ⟨hj', hi⟩⟩⟩

/-- R9: with the windows disjoint, an address belongs to the slot whose window contains it. -/
theorem SettingsInv.windowSlot_eq_some (h : SettingsInv s) (i : SlotId) (a : BitVec 64) :
    s.windowSlot a = some i ↔ inRange (windowOf (s.slots[i]).inForce) a = true :=
  find_slot_eq_some i fun j k hjk => h.windowsDisjoint j k hjk a

/-- R10: with the bus ranges disjoint, a bus belongs to the slot whose range contains it. -/
theorem SettingsInv.busSlot_eq_some (h : SettingsInv s) (i : SlotId) (b : Byte) :
    s.busSlot b = some i ↔ inRange (busRangeOf (s.slots[i]).inForce) b = true :=
  find_slot_eq_some i fun j k hjk => h.busesDisjoint j k hjk b

/-- R8: an address within the 64 KiB of the BAR. -/
theorem State.barOffset_of_inside {base address : BitVec 64} (hb : s.mgmt.bar = some base)
    (hlo : base.toNat ≤ address.toNat) (hhi : address.toNat < base.toNat + 65536) :
    s.barOffset address = some (address.toNat - base.toNat) := by
  simp [State.barOffset, hb, hlo, hhi]

theorem State.barOffset_of_outside {address : BitVec 64}
    (h : ∀ base, s.mgmt.bar = some base → ¬ (base.toNat ≤ address.toNat ∧ address.toNat < base.toNat + 65536)) :
    s.barOffset address = none := by
  unfold State.barOffset
  split
  · next base hb => exact if_neg (h base hb)
  · rfl

/-- R8: the BAR comes before the windows. -/
theorem State.memTarget_of_bar {address : BitVec 64} {a : Nat} (h : s.barOffset address = some a) :
    s.memTarget address = .window := by
  simp [State.memTarget, h]

/-- R9: outside the BAR the window that contains the address decides. -/
theorem State.memTarget_of_no_bar {address : BitVec 64} (h : s.barOffset address = none) :
    s.memTarget address = (s.windowSlot address).elim .unrouted .slot := by
  simp only [State.memTarget, h, Option.isSome_none, Bool.false_eq_true, if_false]
  cases s.windowSlot address <;> rfl

/-- R8: a configuration request of form LOCAL. -/
theorem State.cfgTarget_of_local {c : CfgRequest} (h : c.form = .localForm) :
    s.cfgTarget c = if c.device = 0 ∧ c.function = 0 then .management else .unrouted := by
  simp only [State.cfgTarget, h]
  rfl

/-- R10: a configuration request of form ROUTED. -/
theorem State.cfgTarget_of_routed {c : CfgRequest} (h : c.form = .routedForm) :
    s.cfgTarget c = (s.busSlot c.bus).elim .unrouted .slot := by
  simp only [State.cfgTarget, h]
  cases s.busSlot c.bus <;> rfl

/-- The target that the search for a slot gives. -/
theorem elim_slot_eq_slot {o : Option SlotId} : o.elim Target.unrouted Target.slot = .slot i ↔ o = some i := by
  cases o <;> simp

theorem elim_slot_cases (o : Option SlotId) :
    o.elim Target.unrouted Target.slot = .unrouted ∨ ∃ k, o.elim Target.unrouted Target.slot = .slot k := by
  cases o with
  | none => exact .inl rfl
  | some k => exact .inr ⟨k, rfl⟩

/-- Settles O26: with the routing of the slots disjoint, the search for a slot is the test of its window or bus range. -/
theorem routing : Obligations.Routing := by
  intro i r c s f hinv
  refine ⟨fun base hb hlo hhi => ?bar, fun hout => ?window, State.cfgTarget_of_local, fun hform => ?bus, fun _ => rfl⟩
  case bar =>
    have ht := State.memTarget_of_bar (State.barOffset_of_inside hb hlo hhi)
    exact ⟨ht, ht⟩
  case window =>
    rw [State.memTarget_of_no_bar (State.barOffset_of_outside hout), elim_slot_eq_slot, hinv.windowSlot_eq_some,
      inRange_windowOf]
    exact ⟨State.memTarget_of_no_bar (State.barOffset_of_outside hout), Iff.rfl, elim_slot_cases _⟩
  case bus =>
    have ht : s.target (.known (.cfgRead c)) = _ := State.cfgTarget_of_routed hform
    rw [ht, elim_slot_eq_slot, hinv.busSlot_eq_some, inRange_busRangeOf]
    exact ⟨Iff.rfl, elim_slot_cases _⟩

end

end Sys2Proof.Machine

/-! PROOF. Host posted traffic, and what the host sends to the controller itself (chapter 1, R4, R8, R14, R150). -/

namespace Sys2Proof.Machine

open Sys2Proof

section
variable {s : State} {i : SlotId}

/-! ### Posted writes and messages (R14) -/

/-- R14: a slot that a host posted write or message reaches. -/
def Slot.takingPosted (p : CardPacket) (sl : Slot) : Slot :=
  if sl.cu.st = .active then { sl with port := { sl.port with outbound := sl.port.outbound ++ [p] } }
  else { sl with ctr := { sl.ctr with postedDiscarded :=
    if sl.ctr.postedDiscarded = 0xFFFFFFFF then sl.ctr.postedDiscarded else sl.ctr.postedDiscarded + 1 } }

theorem State.slotPosted_eq (s : State) (i : SlotId) (p : CardPacket) :
    s.slotPosted i p = s.onSlot i (Slot.takingPosted p) := by
  unfold State.slotPosted
  split
  · next h => simp only [State.pushOutbound_eq, State.onSlot, Slot.takingPosted, if_pos h]
  · next h => simp only [State.countPostedDiscarded_eq, State.onSlot, Slot.takingPosted, if_neg h, satAdd_one_dword]

theorem State.hostMemWrite_of_slot {r : MemRequest} {data : List Dword} (h : s.memTarget r.address = .slot i) :
    s.hostMemWrite r data = s.slotPosted i (.memWrite r data) := by
  simp only [State.hostMemWrite, h]

theorem State.hostMemWrite_of_window {r : MemRequest} {data : List Dword} {a : Nat}
    (h : s.barOffset r.address = some a) : s.hostMemWrite r data = s.writeWindow (windowWriteOf r data a) := by
  simp only [State.hostMemWrite, State.memTarget_of_bar h, h, Option.getD_some]

theorem State.hostMessage_of_slot {m : HostMessage} {bus : Byte} (hm : m.routing = .toBus bus)
    (hb : s.busSlot bus = some i) : s.hostMessage m = s.slotPosted i (.message m) := by
  simp only [State.hostMessage, hm, hb]

theorem State.busSlot_of_only {bus : Byte} (hi : inRange (busRangeOf (s.slots[i]).inForce) bus = true)
    (hk : ∀ k : SlotId, k ≠ i → inRange (busRangeOf (s.slots[k]).inForce) bus = false) : s.busSlot bus = some i :=
  (find_finRange_eq_some _ i).mpr ⟨hi, fun j hj => hk j hj.ne⟩

/-- A change made once at each of some slots changes these slots and nothing else. -/
theorem foldl_onSlot (f : Slot → Slot) (ks : List SlotId) (hks : ks.Nodup) (s : State) :
    ∃ v : Vector Slot 8, ks.foldl (fun s k => s.onSlot k f) s = { s with slots := v } ∧
      ∀ j : SlotId, v[j] = if j ∈ ks then f s.slots[j] else s.slots[j] := by
  induction ks generalizing s with
  | nil => exact ⟨s.slots, rfl, fun j => by simp⟩
  | cons k ks ih =>
    obtain ⟨hk, hks⟩ := List.nodup_cons.mp hks
    obtain ⟨v, hv, hget⟩ := ih hks (s.onSlot k f)
    refine ⟨v, hv, fun j => ?_⟩
    rw [hget, State.onSlot_slots_get]
    by_cases hj : j = k
    · subst hj
      simp [hk]
    · simp [hj]

/-- Settles O27: a posted write or message changes the slots it reaches, each by `Slot.takingPosted`. -/
theorem hostPostedTraffic : Obligations.HostPostedTraffic := by
  intro i r data bus cls rid s posted message
  refine ⟨fun ht => ?write, fun hi hk => ?toBus, ?broadcast, ?toController⟩
  case write =>
    exact event_next_of_onSlot (f := fun s => s.hostMemWrite r data) (g := Slot.takingPosted (.memWrite r data)) s i
      ((State.hostMemWrite_of_slot ht).trans (s.slotPosted_eq i _))
  case toBus =>
    exact event_next_of_onSlot (f := fun s => s.hostMessage (message (.toBus bus)))
      (g := Slot.takingPosted (.message (message (.toBus bus)))) s i
      ((State.hostMessage_of_slot rfl (State.busSlot_of_only hi hk)).trans (s.slotPosted_eq i _))
  case broadcast =>
    obtain ⟨v, hv, hget⟩ :=
      foldl_onSlot (Slot.takingPosted (.message (message .broadcast))) _ (List.nodup_finRange 8) s
    have heffect : s.hostMessage (message .broadcast) = { s with slots := v } := by
      rw [← hv]
      simp only [← State.slotPosted_eq]
      rfl
    refine ⟨{ s with slots := v }, ?_, rfl, fun k => ?_⟩
    · exact event_next_of_kept (f := fun s => s.hostMessage (message .broadcast)) heffect rfl rfl
    · exact (hget k).trans (if_pos (List.mem_finRange k))
  case toController => exact event_next_self (f := fun s => s.hostMessage (message .toController)) s rfl

/-! ### The data of a completion (R4, R30, R150) -/

/-- The bytes of a dword made of four bytes. -/
theorem leBytes_ofLeBytes (b0 b1 b2 b3 : Byte) (bs : List Byte) :
    leBytes 4 (ofLeBytes 32 4 (b0 :: b1 :: b2 :: b3 :: bs)) = [b0, b1, b2, b3] := by
  have h0 := b0.isLt
  have h1 := b1.isLt
  have h2 := b2.isLt
  have h3 := b3.isLt
  have hword : (ofLeBytes 32 4 (b0 :: b1 :: b2 :: b3 :: bs)).toNat =
      b0.toNat + 256 * (b1.toNat + 256 * (b2.toNat + 256 * b3.toNat)) := by
    rw [ofLeBytes, BitVec.toNat_ofNat]
    exact Nat.mod_eq_of_lt (by simp [List.range_succ]; omega)
  generalize ofLeBytes 32 4 (b0 :: b1 :: b2 :: b3 :: bs) = v at hword
  have hbyte : ∀ k (b : Byte), v.toNat / 2 ^ (8 * k) % 256 = b.toNat → v.extractLsb' (8 * k) 8 = b := by
    intro k b hb
    apply BitVec.eq_of_toNat_eq
    rw [BitVec.extractLsb'_toNat, Nat.shiftRight_eq_div_pow]
    exact hb
  simp only [leBytes, List.range_succ, List.range_zero, List.nil_append, List.cons_append, List.map_cons, List.map_nil]
  rw [hbyte 0 b0 (by omega), hbyte 1 b1 (by omega), hbyte 2 b2 (by omega), hbyte 3 b3 (by omega)]

/-- The dwords made of a whole number of dwords' bytes hold these bytes. -/
theorem dwordBytes_packDwords (n : Nat) (bs : List Byte) (h : bs.length = 4 * n) :
    dwordBytes (packDwords n bs) = bs := by
  induction n generalizing bs with
  | zero =>
    obtain rfl : bs = [] := List.length_eq_zero_iff.mp (by omega)
    rfl
  | succ n ih =>
    match bs, h with
    | b0 :: b1 :: b2 :: b3 :: rest, h =>
      have hrest : rest.length = 4 * n := by simp only [List.length_cons] at h; omega
      have hcons : dwordBytes (packDwords (n + 1) (b0 :: b1 :: b2 :: b3 :: rest)) =
          leBytes 4 (ofLeBytes 32 4 (b0 :: b1 :: b2 :: b3 :: rest)) ++ dwordBytes (packDwords n rest) := rfl
      rw [hcons, leBytes_ofLeBytes, ih rest hrest]
      rfl

theorem length_packDwords (n : Nat) (bs : List Byte) : (packDwords n bs).length = n := by
  induction n generalizing bs with
  | zero => rfl
  | succ n ih => simp [packDwords, ih]

theorem length_alignData (free lead : Nat) (bytes follow : List Byte) :
    (alignData free lead bytes follow).length = dwordsFor lead bytes.length := length_packDwords _ _

/-- The bytes carried stand in a completion's data from position `lead` on. -/
theorem getElem?_dwordBytes_alignData (free lead : Nat) (bytes : List Byte) (j : Nat) (hj : j < bytes.length) :
    (dwordBytes (alignData free lead bytes []))[lead + j]? = bytes[j]? := by
  have hroom : lead + bytes.length ≤ 4 * dwordsFor lead bytes.length := by unfold dwordsFor; omega
  unfold alignData
  dsimp only
  rw [dwordBytes_packDwords]
  · rw [List.append_assoc, List.append_assoc, List.getElem?_append_right (by simp)]
    rw [List.length_map, List.length_range, Nat.add_sub_cancel_left, List.getElem?_append_left hj]
  · simp only [List.take_nil, List.length_append, List.length_map, List.length_range, List.length_nil]
    omega

/-! ### The window and the configuration space (R8, R150) -/

theorem State.decide_of_window {r : MemRequest} {a : Nat} (h : s.barOffset r.address = some a) :
    s.decide (.known (.memRead r)) = s.answerWindowRead r a := by
  have ht : s.target (.known (.memRead r)) = .window := State.memTarget_of_bar h
  simp only [State.decide, ht, h, Option.getD_some]

theorem State.decide_of_management {q : NonPosted} (h : s.target (.known q) = .management) :
    s.decide (.known q) = s.serveManagement q := by
  simp only [State.decide, h]

/-- R150: the one completion that answers a read of the window. -/
def State.windowAnswer (s : State) (r : MemRequest) (a : Nat) : Completion :=
  { requesterId := r.requesterId, tag := r.tag, status := .success, byteCount := memBytesRequested r,
    lowerAddress := (firstByteAddress r).setWidth 7,
    data := alignData s.freeIndex ((firstByteAddress r).toNat % 4)
      (s.windowBytes (a + (firstByteAddress r - r.address).toNat) (memBytesRequested r)) [] }

theorem State.length_windowBytes (s : State) (a n : Nat) : (s.windowBytes a n).length = n := by
  simp [State.windowBytes]

theorem State.windowAnswer_length (s : State) (r : MemRequest) (a : Nat) :
    (s.windowAnswer r a).data.length = ((firstByteAddress r).toNat % 4 + memBytesRequested r + 3) / 4 := by
  rw [State.windowAnswer, length_alignData, State.length_windowBytes, dwordsFor]

theorem State.windowAnswer_byte (s : State) (r : MemRequest) (a j : Nat) (hj : j < memBytesRequested r) :
    (dwordBytes (s.windowAnswer r a).data)[(firstByteAddress r).toNat % 4 + j]? =
      some (s.windowByte (a + (firstByteAddress r - r.address).toNat + j)) := by
  rw [State.windowAnswer, getElem?_dwordBytes_alignData _ _ _ _ (by rwa [State.length_windowBytes])]
  simp [State.windowBytes, hj]

/-- Settles O28: the window and the management function answer without a slot. -/
theorem controllerTraffic : Obligations.ControllerTraffic := by
  intro r a c d data s answer
  refine ⟨fun hq ha => ?read, fun ha => ?write, fun hq hform hdev hfn => ?management⟩
  case read =>
    have heffect : s.arrive (.known (.memRead r)) = s.answerWindowRead r a := by
      rw [State.arrive_of_empty hq, State.decide_of_window ha]
    refine ⟨_, event_next_of_kept (f := fun s => s.arrive (.known (.memRead r))) heffect rfl rfl, rfl, rfl,
      s.windowAnswer r a, ?_, rfl, rfl, rfl, rfl, rfl, s.windowAnswer_length r a, s.windowAnswer_byte r a⟩
    rw [interruptSent_of_kept (s := s) (t := s.answerWindowRead r a) rfl rfl, List.append_nil]
    rfl
  case write =>
    exact event_congr (f := fun s => s.hostMemWrite r data) (g := fun s => s.writeWindow (windowWriteOf r data a)) s
      (State.hostMemWrite_of_window ha)
  case management =>
    have htarget : s.cfgTarget c = .management := (State.cfgTarget_of_local hform).trans (if_pos ⟨hdev, hfn⟩)
    have served : ∀ q, s.target (.known q) = .management → s.arrive (.known q) = s.serveManagement q := by
      intro q ht
      rw [State.arrive_of_empty hq, State.decide_of_management ht]
    exact ⟨event_next_of_kept (f := fun s => s.arrive (.known (.cfgRead c))) (served _ htarget) rfl rfl,
      event_next_of_kept (f := fun s => s.arrive (.known (.cfgWrite c d))) (served _ htarget) rfl rfl⟩

end

end Sys2Proof.Machine

/-! PROOF. Card traffic and the events of a link (chapter 1, R6, R15, R17; chapter 5, R88, R89; chapter 6, R104). -/

namespace Sys2Proof.Machine

open Sys2Proof

section
variable {s : State} {i : SlotId}

/-- A change that gives the slot back as it was. -/
theorem State.onSlot_eq_self {f : Slot → Slot} (h : f s.slots[i] = s.slots[i]) : s.onSlot i f = s := by
  rw [State.onSlot, h]
  simp

/-! ### Card reads (R88, R89) -/

theorem State.takeCardRead_of_free {k : Fin 16} {r : MemRequest} (hst : (s.slots[i]).cu.st = .active)
    (hk : LowestFreeReturn s.slots[i] k) : s.takeCardRead i r = s.openReturn i k r := by
  simp only [State.takeCardRead, if_pos hst, (lowestFreeReturn_eq_some s.slots[i] k).mpr hk]

theorem State.takeCardRead_of_full {r : MemRequest} (hst : (s.slots[i]).cu.st = .active)
    (hk : ∀ k : Fin 16, ((s.slots[i]).rmap[k]).body ≠ none) :
    s.takeCardRead i r = s.onPort i fun q => { q with waitingRead := some r } := by
  simp only [State.takeCardRead, if_pos hst, (lowestFreeReturn_eq_none s.slots[i]).mpr hk]

theorem State.takeCardRead_of_not_active {r : MemRequest} (hst : (s.slots[i]).cu.st ≠ .active) :
    s.takeCardRead i r = s.countCardDropped i :=
  if_neg hst

theorem State.countCardDropped_eq (s : State) (i : SlotId) :
    s.countCardDropped i = s.onSlot i fun sl => { sl with ctr := { sl.ctr with
      cardTrafficDropped := if sl.ctr.cardTrafficDropped = 0xFFFFFFFF then sl.ctr.cardTrafficDropped
        else sl.ctr.cardTrafficDropped + 1 } } := rfl

/-- A slot whose card read no longer waits (R89). -/
def Slot.withoutRead (sl : Slot) : Slot := { sl with port := { sl.port with waitingRead := none } }

/-- The state in which the card read of slot `i` no longer waits (R89). -/
def State.withoutRead (s : State) (i : SlotId) : State := s.onSlot i Slot.withoutRead

theorem State.withoutRead_slot (s : State) (i : SlotId) :
    (s.withoutRead i).slots[i] = (s.slots[i]).withoutRead :=
  s.onSlot_slots_same i _

theorem State.withoutRead_of_none (h : (s.slots[i]).port.waitingRead = none) : s.withoutRead i = s := by
  refine State.onSlot_eq_self ?_
  rw [Slot.withoutRead, ← h]

theorem State.handOverRead_of_some {w : MemRequest} (h : (s.slots[i]).port.waitingRead = some w) :
    s.handOverRead i = (s.withoutRead i).takeCardRead i w := by
  simp only [State.handOverRead, h]
  rfl

theorem State.handOverRead_of_none (h : (s.slots[i]).port.waitingRead = none) : s.handOverRead i = s := by
  simp only [State.handOverRead, h]

/-- R87, R88: a slot whose Return Map entry `k` opens now for the card read `r`. -/
def Slot.withReturn (sl : Slot) (s : State) (k : Fin 16) (r : MemRequest) : Slot :=
  { sl with rmap := sl.rmap.set k { gen := (sl.rmap[k]).gen, body := some {
      requesterId := r.requesterId, tag := r.tag, bytesRequested := memBytesRequested r,
      bytesOwed := memBytesRequested r, expiry := s.now + BitVec.ofNat 32 (s.device.returnLimitMs.toNat * 1000) } } }

/-- R87, R88: an event in which a card read that does not wait, or no longer waits, opens an entry. -/
theorem event_openReturn {f : State → State} {k : Fin 16} {r : MemRequest}
    (h : f s = (s.withoutRead i).takeCardRead i r) (hst : (s.slots[i]).cu.st = .active)
    (hk : LowestFreeReturn s.slots[i] k) :
    event f s = .next (slotAfter s i ((s.slots[i]).withoutRead.withReturn s k r) s.attn 0
      [.memRead { r with requesterId := s.mgmt.requesterId, tag := upstreamTag i ((s.slots[i]).rmap[k]).gen k }]) := by
  have hslot := s.withoutRead_slot i
  apply event_next_slotAfter
  rw [h, State.takeCardRead_of_free (by rw [hslot]; exact hst) (by rw [hslot]; exact hk)]
  simp only [State.openReturn, hslot]
  simp [State.withoutRead, State.onSlot, State.emit, Slot.withoutRead, Slot.withReturn, after]

/-- R89: with no entry FREE the card read waits at the port. -/
theorem State.takeCardRead_withoutRead_of_full {r : MemRequest} (hst : (s.slots[i]).cu.st = .active)
    (hfull : ∀ k : Fin 16, ((s.slots[i]).rmap[k]).body ≠ none) :
    (s.withoutRead i).takeCardRead i r =
      s.onSlot i fun sl => { sl with port := { sl.port with waitingRead := some r } } := by
  have hslot := s.withoutRead_slot i
  rw [State.takeCardRead_of_full (by rw [hslot]; exact hst) (by rw [hslot]; exact hfull), State.onPort_eq,
    State.withoutRead, State.onSlot_onSlot]
  rfl

/-- R15: out of ACTIVE the card read is dropped and counted. -/
theorem State.takeCardRead_withoutRead_of_not_active {r : MemRequest} (hst : (s.slots[i]).cu.st ≠ .active) :
    (s.withoutRead i).takeCardRead i r = s.onSlot i fun sl => { sl.withoutRead with ctr := { sl.ctr with
      cardTrafficDropped := if sl.ctr.cardTrafficDropped = 0xFFFFFFFF then sl.ctr.cardTrafficDropped
        else sl.ctr.cardTrafficDropped + 1 } } := by
  rw [State.takeCardRead_of_not_active (by rw [s.withoutRead_slot i]; exact hst), State.countCardDropped_eq,
    State.withoutRead, State.onSlot_onSlot]
  rfl

theorem event_dropCardRead {r : MemRequest} (hst : (s.slots[i]).cu.st ≠ .active) :
    event (fun s => (s.withoutRead i).takeCardRead i r) s = .next { s with
      slots := s.slots.set i { (s.slots[i]).withoutRead with ctr := { (s.slots[i]).ctr with
        cardTrafficDropped := if (s.slots[i]).ctr.cardTrafficDropped = 0xFFFFFFFF
          then (s.slots[i]).ctr.cardTrafficDropped else (s.slots[i]).ctr.cardTrafficDropped + 1 } } } :=
  event_next_of_onSlot (f := fun s => (s.withoutRead i).takeCardRead i r) s i
    (State.takeCardRead_withoutRead_of_not_active hst)

theorem State.noCardCredit_of_none (h : (s.slots[i]).port.waitingRead = none) : s.noCardCredit i = false := by
  rw [State.noCardCredit, h]
  rfl

theorem State.noCardCredit_of_some {w : MemRequest} (h : (s.slots[i]).port.waitingRead = some w) :
    s.noCardCredit i = true := by
  rw [State.noCardCredit, h]
  rfl

/-- R15, R89: what CARD_MEM_READ does while the card has credits, at a slot where no read waits. -/
theorem exec_cardMemRead_of_credit {r : MemRequest} (h : (s.slots[i]).port.waitingRead = none) :
    exec (.cardMemRead i r) s = event (fun s => (s.withoutRead i).takeCardRead i r) s := by
  refine event_congr (f := fun s => if s.noCardCredit i then s else s.takeCardRead i r)
    (g := fun s => (s.withoutRead i).takeCardRead i r) s ?_
  simp only [State.noCardCredit_of_none h, Bool.false_eq_true, if_false, State.withoutRead_of_none h]

/-- Settles O37: a read that arrives where none waits, and a read that is handed over, are taken alike. -/
theorem cardReads : Obligations.CardReads := by
  intro i k r s sl run hand full took entry opens dropped
  refine ⟨fun hw => ?arrives, fun w hw => ?waits⟩
  case arrives =>
    have hrun : run = event (fun s => (s.withoutRead i).takeCardRead i r) s := exec_cardMemRead_of_credit hw
    rw [hrun]
    exact ⟨event_openReturn rfl,
      fun hst hfull => event_next_of_onSlot (f := fun s => (s.withoutRead i).takeCardRead i r) s i
        (State.takeCardRead_withoutRead_of_full hst hfull),
      fun hst => event_dropCardRead hst,
      event_next_self (f := fun s => s.handOverRead i) s (State.handOverRead_of_none hw)⟩
  case waits =>
    have hhand : hand = event (fun s => (s.withoutRead i).takeCardRead i w) s :=
      event_congr (f := fun s => s.handOverRead i) s (State.handOverRead_of_some hw)
    rw [hhand]
    refine ⟨event_openReturn rfl, fun hst hfull => ?_, fun hst => event_dropCardRead hst, ?_⟩
    · refine event_next_self s ((State.takeCardRead_withoutRead_of_full hst hfull).trans (State.onSlot_eq_self ?_))
      rw [← hw]
    · exact event_next_self (f := fun s => if s.noCardCredit i then s else s.takeCardRead i r) s
        (if_pos (State.noCardCredit_of_some hw))

/-! ### Card writes, messages and configuration requests (R6, R15, R67) -/

/-- R15: traffic that a card may not send is dropped and counted, and nothing else happens. -/
theorem event_countCardDropped {f : State → State} (h : f s = s.countCardDropped i) :
    event f s = .next { s with slots := s.slots.set i { s.slots[i] with ctr := { (s.slots[i]).ctr with
      cardTrafficDropped := if (s.slots[i]).ctr.cardTrafficDropped = 0xFFFFFFFF
        then (s.slots[i]).ctr.cardTrafficDropped else (s.slots[i]).ctr.cardTrafficDropped + 1 } } } :=
  event_next_of_onSlot s i (h.trans (s.countCardDropped_eq i))

/-- R15: an event that does nothing but send a packet upstream. -/
theorem event_emit {f : State → State} {p : HostPacket} (h : f s = s.emit p) :
    event f s = .next (slotAfter s i s.slots[i] s.attn 0 [p]) := by
  apply event_next_slotAfter
  rw [h, State.emit]
  simp

theorem State.cardPosted_of_active {p : HostPacket} (h : (s.slots[i]).cu.st = .active) : s.cardPosted i p = s.emit p :=
  if_pos h

theorem State.cardPosted_of_not_active {p : HostPacket} (h : (s.slots[i]).cu.st ≠ .active) :
    s.cardPosted i p = s.countCardDropped i :=
  if_neg h

/-- R67 does not apply to a message that is not fatal or is not forwarded. -/
theorem State.cardMessage_of_not_fatal {m : CardMessage} (h : ¬ ((s.slots[i]).cu.st = .active ∧ m.cls = .errorFatal)) :
    s.cardMessage i m = s.cardPosted i (.message m) :=
  if_neg h

/-- R67: a forwarded fatal message is filed, and with fence_on_fatal off nothing more. -/
theorem State.cardMessage_of_fatal {m : CardMessage} (hst : (s.slots[i]).cu.st = .active) (hm : m.cls = .errorFatal)
    (hf : (s.slots[i]).inForce.fenceOnFatal = 0) :
    s.cardMessage i m = (s.emit (.message m)).fileIncident i .fatalMessage .none (some (m.requesterId.setWidth 32))
      (some 0) none := by
  have hforce : (((s.emit (.message m)).slots[i]).inForce.fenceOnFatal != 0#8) = false := by
    rw [State.emit_slots, hf]
    rfl
  rw [State.cardMessage, if_pos ⟨hst, hm⟩, State.cardPosted_of_active hst]
  simp only [State.takeFatalMessage, hforce, Bool.false_eq_true, if_false]

theorem State.cardOther_of_answered {rid : BitVec 16} {tag : BitVec 10} (h : (s.slots[i]).cu.st = .active) :
    s.cardOther i rid tag true = s.pushOutbound i (.answer (cardAnswer rid tag)) :=
  if_pos ⟨h, rfl⟩

theorem State.cardOther_of_dropped {rid : BitVec 16} {tag : BitVec 10} {nonPosted : Bool}
    (h : ¬ ((s.slots[i]).cu.st = .active ∧ nonPosted = true)) :
    s.cardOther i rid tag nonPosted = s.countCardDropped i :=
  if_neg h

/-- R6: what CARD_CONFIG_REQUEST does while the card has credits. -/
theorem exec_cardConfigRequest_of_credit {rid : BitVec 16} {tag : BitVec 10} {nonPosted : Bool}
    (h : nonPosted = true → (s.slots[i]).port.waitingRead = none) :
    exec (.cardConfigRequest i rid tag nonPosted) s = event (fun s => s.cardOther i rid tag nonPosted) s := by
  have hcredit : (nonPosted && s.noCardCredit i) = false := by
    cases nonPosted with
    | false => rfl
    | true => rw [State.noCardCredit_of_none (h rfl)]; rfl
  refine event_congr (f := fun s => if nonPosted && s.noCardCredit i then s else s.cardOther i rid tag nonPosted)
    (g := fun s => s.cardOther i rid tag nonPosted) s ?_
  simp only [hcredit, Bool.false_eq_true, if_false]

/-- Settles O38: each kind of card traffic is sent on, filed, answered, or dropped and counted. -/
theorem cardPostedTraffic : Obligations.CardPostedTraffic := by
  intro i r data m rid tag s sl dropped
  refine ⟨fun hst => ⟨?write, fun hm => ?message, fun hm hf => ?fatal, fun hw => ?answered, ?posted⟩,
    fun hst => ⟨?writeDropped, ?messageDropped, ?postedDropped, fun hw => ?configDropped⟩, fun w hw => ?noCredit⟩
  case write =>
    exact event_emit (f := fun s => s.cardPosted i (.memWrite r data)) (State.cardPosted_of_active hst)
  case message =>
    exact event_emit (f := fun s => s.cardMessage i m)
      ((State.cardMessage_of_not_fatal fun h => hm h.2).trans (State.cardPosted_of_active hst))
  case fatal =>
    refine (event_next (f := fun s => s.cardMessage i m) (State.cardMessage_of_fatal hst hm hf)).trans ?_
    rw [State.fileIncident_eq_incidentAt, State.phaseOf_of_not_recovering _ i (by rw [State.emit_slots, hst]; decide),
      State.emit_slots, hst]
    rfl
  case answered =>
    rw [exec_cardConfigRequest_of_credit fun _ => hw]
    exact event_next_of_onSlot (f := fun s => s.cardOther i rid tag true) s i
      ((State.cardOther_of_answered hst).trans (s.pushOutbound_eq i _))
  case posted =>
    rw [exec_cardConfigRequest_of_credit (nonPosted := false) nofun]
    exact event_countCardDropped (f := fun s => s.cardOther i rid tag false) (State.cardOther_of_dropped (by simp))
  case writeDropped =>
    exact event_countCardDropped (f := fun s => s.cardPosted i (.memWrite r data)) (State.cardPosted_of_not_active hst)
  case messageDropped =>
    exact event_countCardDropped (f := fun s => s.cardMessage i m)
      ((State.cardMessage_of_not_fatal fun h => hst h.1).trans (State.cardPosted_of_not_active hst))
  case postedDropped =>
    rw [exec_cardConfigRequest_of_credit (nonPosted := false) nofun]
    exact event_countCardDropped (f := fun s => s.cardOther i rid tag false) (State.cardOther_of_dropped (by simp))
  case configDropped =>
    rw [exec_cardConfigRequest_of_credit fun _ => hw]
    exact event_countCardDropped (f := fun s => s.cardOther i rid tag true)
      (State.cardOther_of_dropped fun h => hst h.1)
  case noCredit =>
    refine event_next_self (f := fun s => if true && s.noCardCredit i then s else s.cardOther i rid tag true) s ?_
    exact if_pos (State.noCardCredit_of_some hw)

/-! ### The link (R17, R104, R120) -/

theorem State.linkBecomesUp_eq (s : State) (i : SlotId) :
    s.linkBecomesUp i = s.onSlot i fun sl => { sl with port := { sl.port with link := .up, upTick := s.now } } := rfl

theorem State.setPlan_onSlot (s : State) (i : SlotId) (f : Slot → Slot) (p : Option Plan) :
    (s.onSlot i f).setPlan p = (s.setPlan p).onSlot i f := rfl

/-- R119: only the current plan in TRAINING is told that its slot's link is UP. -/
theorem State.tellLinkUp_of_no_training (h : ∀ p, s.plan = some p → p.slot ≠ i ∨ p.phase ≠ .training) :
    s.tellLinkUp i = s := by
  unfold State.tellLinkUp
  split
  · next p hp => exact if_neg fun hc => (h p hp).elim (absurd hc.1) (absurd hc.2)
  · rfl

theorem State.tellLinkUp_of_training {p : Plan} (hp : s.plan = some p) (hi : p.slot = i) (hph : p.phase = .training)
    (hstop : p.stop = false) : s.tellLinkUp i = s.enterSettling p := by
  simp only [State.tellLinkUp, hp, hi, hph, and_self, if_true, State.planEvent, hstop, Bool.false_eq_true, if_false]

/-- R24: a controller request opens the lowest FREE entry. -/
theorem State.issueController_of_free {k : Fin 32} {c : ControllerRequest} (hk : LowestFree s.slots[i] k) :
    s.issueController i c = s.openController i k c := by
  simp only [State.issueController, (lowestFree_eq_some s.slots[i] k).mpr hk]

theorem State.planIssues_of_free {p : Plan} {k : Fin 32} (hk : LowestFree s.slots[p.slot] k) :
    s.planIssues p = (s.setPlan (some p)).openController p.slot k p.request :=
  State.issueController_of_free (s := s.setPlan (some p)) hk

/-- R120, R121: the plan enters SETTLING and its identity read opens the lowest FREE entry. -/
theorem State.enterSettling_of_free {p : Plan} {k : Fin 32} (hk : LowestFree s.slots[p.slot] k) :
    s.enterSettling p =
      (s.setPlan (some { p with
        phase := .settling, trainLimit := none,
        settleLimit := some (s.now + BitVec.ofNat 32 ((s.slots[p.slot]).inForce.settleLimitMs.toNat * 1000)) })).onSlot
        p.slot fun sl => sl.withOpened s.now k (readBody s sl .plan 0)
          (readSent s sl (downstreamTag (sl.trk.ort[k]).gen k) 0) := by
  unfold State.enterSettling
  refine (State.planIssues_of_free (k := k) ?_).trans ?_
  · exact hk
  · rw [State.openController_eq]
    rfl

/-- R104: the link partner's training ends while the link is TRAINING. -/
theorem exec_linkUp_of_training (hl : (s.slots[i]).port.link = .training) :
    exec (.linkUp i) s = event (fun s => (s.linkBecomesUp i).tellLinkUp i) s :=
  event_congr (f := fun s => if (s.slots[i]).port.link = .training then (s.linkBecomesUp i).tellLinkUp i else s) s
    (if_pos hl)

/-- An event that sends nothing and leaves ATTN changes, in the terms of claims, one slot alone. -/
theorem slotAfter_of_kept (s : State) (i : SlotId) (sl : Slot) :
    slotAfter s i sl s.attn 0 [] = { s with slots := s.slots.set i sl } := by
  unfold slotAfter
  simp only [List.append_nil, BitVec.add_zero]
  exact withInterrupt_of_kept rfl rfl

/-- Settles O54: the change to UP tells the current plan in TRAINING, whose identity read then opens an entry. -/
theorem linkEvents : Obligations.LinkEvents := by
  intro i k count s sl up
  refine ⟨fun hl => ?notTraining, fun hl hp => ?linkAlone, fun p hp hl hi hph hstop hk => ?settling,
    fun hl => ?noDrain, fun hl => ?drain⟩
  case notTraining =>
    exact event_next_self (f := fun s => if (s.slots[i]).port.link = .training then (s.linkBecomesUp i).tellLinkUp i
      else s) s (if_neg hl)
  case linkAlone =>
    rw [exec_linkUp_of_training hl]
    exact event_next_of_onSlot (f := fun s => (s.linkBecomesUp i).tellLinkUp i) s i
      ((State.tellLinkUp_of_no_training (s := s.linkBecomesUp i) hp).trans (s.linkBecomesUp_eq i))
  case settling =>
    subst hi
    have hslot : (s.linkBecomesUp p.slot).slots[p.slot] = up := s.onSlot_slots_same p.slot _
    have hjoin : ∀ plan f, ((s.linkBecomesUp p.slot).setPlan plan).onSlot p.slot f =
        { s with slots := s.slots.set p.slot (f up), plan := plan } := by
      intro plan f
      rw [State.linkBecomesUp_eq, State.setPlan_onSlot, State.onSlot_onSlot]
      rfl
    have heffect := (State.tellLinkUp_of_training (s := s.linkBecomesUp p.slot) hp rfl hph hstop).trans
      (State.enterSettling_of_free (k := k) (by rw [hslot]; exact hk))
    rw [exec_linkUp_of_training hl, slotAfter_of_kept]
    refine event_next_of_kept (f := fun s => (s.linkBecomesUp p.slot).tellLinkUp p.slot) (heffect.trans ?_) rfl rfl
    rw [hjoin, hslot]
    rfl
  case noDrain =>
    exact event_next_self (f := fun s => if (s.slots[i]).port.link = .up then s.drainOutbound i count else s) s
      (if_neg hl)
  case drain =>
    exact event_next_of_kept (f := fun s => if (s.slots[i]).port.link = .up then s.drainOutbound i count else s)
      (if_pos hl) rfl rfl

end

end Sys2Proof.Machine

/-! PROOF. The tables of a slot (R18, R20, R22, R86): what the opening, the freeing and the adjusting of an entry and the
queueing and the removal of a held item make of them, and the invariant of the tables slot by slot. -/

namespace Sys2Proof.Machine

open Sys2Proof

/-! ### The tables of one slot -/

/-- R18, R20, R22: the Age List is the list of the OPEN entries, the bytes owed stay within the bytes requested, and the
Hold Queue holds at most 8 items, none of which has been answered in part. -/
structure TablesAgree (ort : Vector OrtEntry 32) (age : List (Fin 32)) (hold : List HoldItem) : Prop where
  nodup : age.Nodup
  lists : ∀ k : Fin 32, k ∈ age ↔ (ort[k]).body ≠ none
  owed : ∀ (k : Fin 32) (b : OrtBody), (ort[k]).body = some b → b.bytesOwed ≤ b.bytesRequested
  depth : hold.length ≤ 8
  held : ∀ h ∈ hold, h.body.bytesOwed = h.body.bytesRequested

/-- R86: the bytes owed of a Return Map entry stay within the bytes requested. -/
def ReturnsWithin (rmap : Vector ReturnEntry 16) : Prop :=
  ∀ (k : Fin 16) (b : ReturnBody), (rmap[k]).body = some b → b.bytesOwed ≤ b.bytesRequested

/-- What the tables of one slot keep to. -/
def Slot.Tabled (sl : Slot) : Prop := TablesAgree sl.trk.ort sl.trk.age sl.trk.hold ∧ ReturnsWithin sl.rmap

/-- An element of a vector in which one place has been set. -/
theorem getElem_set_fin {α : Type} {n : Nat} (v : Vector α n) (k j : Fin n) (x : α) :
    (v.set k x)[j] = if j = k then x else v[j] := by
  simp only [Fin.getElem_fin, Vector.getElem_set, Fin.ext_iff, eq_comm]

section
variable {ort : Vector OrtEntry 32} {age : List (Fin 32)} {hold : List HoldItem} {k : Fin 32} {gen : BitVec 3}

/-- R19, R20: a FREE entry opens and joins the tail of the Age List. -/
theorem TablesAgree.opened {b : OrtBody} (h : TablesAgree ort age hold) (hk : (ort[k]).body = none)
    (hb : b.bytesOwed ≤ b.bytesRequested) :
    TablesAgree (ort.set k { gen := gen, body := some b }) (age ++ [k]) hold where
  nodup := by
    have hnew : k ∉ age := fun hm => (h.lists k).mp hm hk
    exact List.nodup_append.mpr ⟨h.nodup, List.nodup_singleton k, fun a ha c hc => by
      rw [List.mem_singleton.mp hc]
      exact fun hak => hnew (hak ▸ ha)⟩
  lists j := by
    rw [getElem_set_fin, List.mem_append, List.mem_singleton, h.lists]
    split <;> simp_all
  owed j c hc := by
    rw [getElem_set_fin] at hc
    split at hc
    · cases hc
      exact hb
    · exact h.owed j c hc
  depth := h.depth
  held := h.held

/-- R26: an entry becomes FREE and leaves the Age List. -/
theorem TablesAgree.freed (h : TablesAgree ort age hold) :
    TablesAgree (ort.set k { gen := gen, body := none }) (age.erase k) hold where
  nodup := h.nodup.erase k
  lists j := by
    rw [getElem_set_fin, h.nodup.mem_erase_iff, h.lists]
    split <;> simp_all
  owed j c hc := by
    rw [getElem_set_fin] at hc
    split at hc
    · cases hc
    · exact h.owed j c hc
  depth := h.depth
  held := h.held

/-- R29: an OPEN entry takes other fields, within its bytes requested. -/
theorem TablesAgree.adjusted {b : OrtBody} (h : TablesAgree ort age hold) (hk : (ort[k]).body ≠ none)
    (hb : b.bytesOwed ≤ b.bytesRequested) : TablesAgree (ort.set k { gen := gen, body := some b }) age hold where
  nodup := h.nodup
  lists j := by
    rw [getElem_set_fin, h.lists]
    split <;> simp_all
  owed j c hc := by
    rw [getElem_set_fin] at hc
    split at hc
    · cases hc
      exact hb
    · exact h.owed j c hc
  depth := h.depth
  held := h.held

/-- R22: a request joins the Hold Queue where it has room. -/
theorem TablesAgree.queued {item : HoldItem} (h : TablesAgree ort age hold) (hroom : hold.length < 8)
    (hitem : item.body.bytesOwed = item.body.bytesRequested) : TablesAgree ort age (hold ++ [item]) :=
  { h with
    depth := by rw [List.length_append, List.length_singleton]; omega
    held := fun x hx => (List.mem_append.mp hx).elim (h.held x) fun hx => List.mem_singleton.mp hx ▸ hitem }

/-- R27, R39, R49: items leave the Hold Queue. -/
theorem TablesAgree.removed {hold' : List HoldItem} (h : TablesAgree ort age hold) (hs : hold'.Sublist hold) :
    TablesAgree ort age hold' :=
  { h with
    depth := hs.length_le.trans h.depth
    held := fun x hx => h.held x (hs.subset hx) }

/-- R41, R42: a table without an OPEN entry, an Age List and a Hold Queue without a member. -/
theorem TablesAgree.of_all_free (h : ∀ j : Fin 32, (ort[j]).body = none) : TablesAgree ort [] [] where
  nodup := List.nodup_nil
  lists j := by simp only [List.not_mem_nil, h j, ne_eq, not_true_eq_false]
  owed j b hb := absurd ((h j).symm.trans hb) nofun
  depth := Nat.zero_le 8
  held x hx := by cases hx

end

/-- R86, R94: a Return Map entry is set, within its bytes requested if it is OPEN. -/
theorem ReturnsWithin.set {rmap : Vector ReturnEntry 16} {k : Fin 16} {e : ReturnEntry} (h : ReturnsWithin rmap)
    (he : ∀ b, e.body = some b → b.bytesOwed ≤ b.bytesRequested) : ReturnsWithin (rmap.set k e) := by
  intro j b hb
  rw [getElem_set_fin] at hb
  split at hb
  · exact he b hb
  · exact h j b hb

/-! ### The invariant of the tables -/

/-- The invariant of the tables, slot by slot. -/
theorem tableInv_iff (s : State) : TableInv s ↔ ∀ i : SlotId, (s.slots[i]).Tabled := by
  constructor
  · intro h i
    exact ⟨⟨h.ageNodup i, h.ageLists i, h.owed i, h.holdDepth i, h.held i⟩, h.returned i⟩
  · intro h
    exact
      { ageNodup := fun i => (h i).1.nodup
        ageLists := fun i => (h i).1.lists
        owed := fun i => (h i).1.owed
        holdDepth := fun i => (h i).1.depth
        held := fun i => (h i).1.held
        returned := fun i => (h i).2 }

theorem TableInv.tabled {s : State} (h : TableInv s) (i : SlotId) : (s.slots[i]).Tabled := (tableInv_iff s).mp h i

section
variable {s : State} {i : SlotId}

/-- A change outside the slots. -/
theorem TableInv.outside {u : State} (h : TableInv s) (hs : u.slots = s.slots := by rfl) : TableInv u := by
  rw [tableInv_iff] at h ⊢
  rwa [hs]

/-- A change of one slot that keeps its tables in order. -/
theorem TableInv.changed {f : Slot → Slot} (h : TableInv s) (hf : (f s.slots[i]).Tabled) : TableInv (s.onSlot i f) := by
  rw [tableInv_iff] at h ⊢
  intro j
  rw [State.onSlot_slots_get]
  split
  · next hj => exact hj ▸ hf
  · exact h j

/-- A change of one slot that leaves its tables as they are. -/
theorem TableInv.onSlot {f : Slot → Slot} (h : TableInv s)
    (ho : (f s.slots[i]).trk.ort = (s.slots[i]).trk.ort := by rfl)
    (ha : (f s.slots[i]).trk.age = (s.slots[i]).trk.age := by rfl)
    (hh : (f s.slots[i]).trk.hold = (s.slots[i]).trk.hold := by rfl)
    (hr : (f s.slots[i]).rmap = (s.slots[i]).rmap := by rfl) : TableInv (s.onSlot i f) := by
  refine h.changed ?_
  unfold Slot.Tabled
  rw [ho, ha, hh, hr]
  exact h.tabled i

/-- A change of every slot that keeps its tables in order. -/
theorem TableInv.mapSlots {u : State} {f : Slot → Slot} (h : TableInv s) (hf : ∀ sl, sl.Tabled → (f sl).Tabled)
    (hs : u.slots = mapVector f s.slots := by rfl) : TableInv u := by
  rw [tableInv_iff] at h ⊢
  intro j
  rw [hs, getElem_mapVector]
  exact hf _ (h j)

theorem TableInv.foldl {α : Type} {f : State → α → State} {as : List α} (h : TableInv s)
    (hf : ∀ u a, TableInv u → TableInv (f u a)) : TableInv (as.foldl f s) := by
  induction as generalizing s with
  | nil => exact h
  | cons a as ih => exact ih (hf s a h)

theorem TableInv.ite {t u : State} {p : Prop} [Decidable p] (ht : TableInv t) (hu : TableInv u) :
    TableInv (if p then t else u) := by
  split <;> assumption

end

end Sys2Proof.Machine

/-! PROOF. The operations of the blocks keep the tables in order, in the order of the model's files. -/

namespace Sys2Proof.Machine

open Sys2Proof

section
variable {s : State} {i : SlotId}

/-! ### The shared operations -/

theorem TableInv.onCu {f : Containment → Containment} (h : TableInv s) : TableInv (s.onCu i f) := h.onSlot

theorem TableInv.onTracker {f : Tracker → Tracker} (h : TableInv s)
    (ho : (f (s.slots[i]).trk).ort = (s.slots[i]).trk.ort := by rfl)
    (ha : (f (s.slots[i]).trk).age = (s.slots[i]).trk.age := by rfl)
    (hh : (f (s.slots[i]).trk).hold = (s.slots[i]).trk.hold := by rfl) : TableInv (s.onTracker i f) :=
  TableInv.onSlot (f := fun sl => { sl with trk := f sl.trk }) h ho ha hh

/-- A change of a Tracker that keeps its tables in order. -/
theorem TableInv.trackerChanged {f : Tracker → Tracker} (h : TableInv s)
    (hf : TablesAgree (f (s.slots[i]).trk).ort (f (s.slots[i]).trk).age (f (s.slots[i]).trk).hold) :
    TableInv (s.onTracker i f) :=
  TableInv.changed (f := fun sl => { sl with trk := f sl.trk }) h ⟨hf, (h.tabled i).2⟩

/-- R27, R39, R49: items leave the Hold Queue of a slot. -/
theorem TableInv.holdRemoved {f : Tracker → Tracker} (h : TableInv s)
    (hf : (f (s.slots[i]).trk).hold.Sublist (s.slots[i]).trk.hold)
    (ho : (f (s.slots[i]).trk).ort = (s.slots[i]).trk.ort := by rfl)
    (ha : (f (s.slots[i]).trk).age = (s.slots[i]).trk.age := by rfl) : TableInv (s.onTracker i f) :=
  h.trackerChanged (by rw [ho, ha]; exact (h.tabled i).1.removed hf)

/-- R86, R94: a Return Map entry of a slot is set, within its bytes requested if it is OPEN. -/
theorem TableInv.returnSet {k : Fin 16} {f : Slot → ReturnEntry} (h : TableInv s)
    (he : ∀ b, (f s.slots[i]).body = some b → b.bytesOwed ≤ b.bytesRequested) :
    TableInv (s.onSlot i fun sl => { sl with rmap := sl.rmap.set k (f sl) }) :=
  h.changed ⟨(h.tabled i).1, (h.tabled i).2.set he⟩

theorem TableInv.onPort {f : SlotPort → SlotPort} (h : TableInv s) : TableInv (s.onPort i f) := h.onSlot

theorem TableInv.onOrderUnit {f : OrderUnit → OrderUnit} (h : TableInv s) : TableInv (s.onOrderUnit i f) := h.onSlot

theorem TableInv.onCounters {f : Counters → Counters} (h : TableInv s) : TableInv (s.onCounters i f) := h.onSlot

theorem TableInv.countPostedDiscarded {n : Nat} (h : TableInv s) : TableInv (s.countPostedDiscarded i n) :=
  h.onCounters

theorem TableInv.countStandins {n : Nat} (h : TableInv s) : TableInv (s.countStandins i n) := h.onCounters

theorem TableInv.countLate (h : TableInv s) : TableInv (s.countLate i) := h.onCounters

theorem TableInv.countStale (h : TableInv s) : TableInv (s.countStale i) := h.onCounters

theorem TableInv.countCardDropped (h : TableInv s) : TableInv (s.countCardDropped i) := h.onCounters

theorem TableInv.countOverrun (h : TableInv s) : TableInv (s.countOverrun i) := h.onCounters

theorem TableInv.countTimeout (h : TableInv s) : TableInv (s.countTimeout i) := h.onCounters

theorem TableInv.countUnrouted (h : TableInv s) : TableInv s.countUnrouted := h.outside

theorem TableInv.raise {a : Attention} (h : TableInv s) : TableInv (s.raise i a) := h.outside

theorem TableInv.clearAttention {a : Attention} (h : TableInv s) : TableInv (s.clearAttention i a) := h.outside

theorem TableInv.setQueue {e : Option QueueEntry} (h : TableInv s) : TableInv (s.setQueue i e) := h.outside

theorem TableInv.setPlan {p : Option Plan} (h : TableInv s) : TableInv (s.setPlan p) := h.outside

theorem TableInv.setSlotState {st : SlotState} (h : TableInv s) : TableInv (s.setSlotState i st) := h.onCu

theorem TableInv.setAttempt {k : Nat} (h : TableInv s) : TableInv (s.setAttempt i k) := h.onSlot

theorem TableInv.becomeActive (h : TableInv s) : TableInv (s.becomeActive i) := h.onCu.onTracker

theorem TableInv.reportTrigger {cause : FenceCause} (h : TableInv s) : TableInv (s.reportTrigger i cause) := h.onCu

theorem TableInv.fileIncident {kind : IncidentKind} {reason : Reason} {a b c : Option Dword} (h : TableInv s) :
    TableInv (s.fileIncident i kind reason a b c) := by
  have hserial : TableInv { s with incidentSerial := s.incidentSerial + 1 } := h.outside
  exact hserial.onSlot.raise

theorem TableInv.endOrder {outcome : OrderOutcome} {reason : Reason} {d1 d2 d3 : Dword} (h : TableInv s) :
    TableInv (s.endOrder i outcome reason d1 d2 d3) := by
  unfold State.endOrder
  split
  · exact h.onOrderUnit.raise
  · exact h

theorem TableInv.endOrderOf {c : OrderCode} {outcome : OrderOutcome} {reason : Reason} {d1 d2 d3 : Dword}
    (h : TableInv s) : TableInv (s.endOrderOf i c outcome reason d1 d2 d3) := by
  unfold State.endOrderOf
  split
  · exact h.endOrder
  · exact h

/-! ### The Slot Port -/

theorem TableInv.emit {p : HostPacket} (h : TableInv s) : TableInv (s.emit p) := h.outside

theorem TableInv.emitCompletions {cs : List Completion} (h : TableInv s) : TableInv (s.emitCompletions cs) :=
  h.outside

theorem TableInv.pushOutbound {q : CardPacket} (h : TableInv s) : TableInv (s.pushOutbound i q) := h.onPort

theorem TableInv.emptyOutbound (h : TableInv s) : TableInv (s.emptyOutbound i) := h.countPostedDiscarded.onPort

theorem TableInv.takeLinkDown (h : TableInv s) : TableInv (s.takeLinkDown i) := by
  unfold State.takeLinkDown
  split
  · exact h.emptyOutbound.onPort
  · exact h.onPort

theorem TableInv.assertLine (h : TableInv s) : TableInv (s.assertLine i) := by
  unfold State.assertLine
  split
  · exact h.takeLinkDown.onPort
  · exact h

theorem TableInv.releaseLine (h : TableInv s) : TableInv (s.releaseLine i) := by
  unfold State.releaseLine
  split
  · exact h.onPort
  · exact h

theorem TableInv.dropWaitingRead (h : TableInv s) : TableInv (s.dropWaitingRead i) := by
  unfold State.dropWaitingRead
  split
  · exact h.onPort.countCardDropped
  · exact h

/-! ### The Return Map -/

theorem TableInv.openReturn {k : Fin 16} {r : MemRequest} (h : TableInv s) : TableInv (s.openReturn i k r) := by
  unfold State.openReturn
  refine TableInv.emit (h.returnSet (f := fun _ => _) fun b hb => ?_)
  cases hb
  exact le_rfl

theorem TableInv.takeCardRead {r : MemRequest} (h : TableInv s) : TableInv (s.takeCardRead i r) := by
  unfold State.takeCardRead
  split
  · split
    · exact h.openReturn
    · exact h.onPort
  · exact h.countCardDropped

theorem TableInv.handOverRead (h : TableInv s) : TableInv (s.handOverRead i) := by
  unfold State.handOverRead
  split
  · exact h.onPort.takeCardRead
  · exact h

theorem TableInv.freeReturn {k : Fin 16} (h : TableInv s) : TableInv (s.freeReturn i k) := by
  unfold State.freeReturn
  exact (h.returnSet (f := fun sl => { gen := (sl.rmap[k]).gen + 1, body := none }) nofun).handOverRead

/-! ### What the Upstream Port answers and what reaches a Tracker -/

theorem TableInv.sendStandIns {cs : List Completion} (h : TableInv s) : TableInv (s.sendStandIns i cs) :=
  h.emitCompletions.countStandins

theorem TableInv.answerUnrouted {q : HostRequest} (h : TableInv s) : TableInv (s.answerUnrouted q) :=
  h.outside

/-- R19, R20: a request opens a FREE entry. -/
theorem TableInv.openEntry {k : Fin 32} {b : OrtBody} {q : NonPosted} (h : TableInv s)
    (hk : ((s.slots[i]).trk.ort[k]).body = none) (hb : b.bytesOwed ≤ b.bytesRequested) :
    TableInv (s.openEntry i k b q) := h.changed ⟨(h.tabled i).1.opened hk hb, (h.tabled i).2⟩

theorem TableInv.openController {k : Fin 32} {c : ControllerRequest} (h : TableInv s)
    (hk : ((s.slots[i]).trk.ort[k]).body = none) : TableInv (s.openController i k c) := h.openEntry hk le_rfl

theorem TableInv.issueController {c : ControllerRequest} (h : TableInv s) : TableInv (s.issueController i c) := by
  unfold State.issueController
  split
  · next k hk => exact h.openController ((lowestFree_eq_some _ k).mp hk).1
  · exact h.onTracker

theorem TableInv.takeHostRequest {q : NonPosted} (h : TableInv s) : TableInv (s.takeHostRequest i q) := by
  unfold State.takeHostRequest
  dsimp only
  split
  · next k _ hk => exact h.openEntry ((lowestFree_eq_some _ k).mp hk).1 le_rfl
  · split
    · next hroom => exact h.trackerChanged ((h.tabled i).1.queued hroom rfl)
    · exact h.outside

theorem TableInv.answerWindowRead {r : MemRequest} {offset : Nat} (h : TableInv s) :
    TableInv (s.answerWindowRead r offset) := h.outside

theorem TableInv.serveManagement {q : NonPosted} (h : TableInv s) : TableInv (s.serveManagement q) := by
  cases q with
  | memRead r => exact h
  | cfgRead r => exact h.emitCompletions
  | cfgWrite r d => exact h.outside

theorem TableInv.slotRequest {q : NonPosted} (h : TableInv s) : TableInv (s.slotRequest i q) := by
  unfold State.slotRequest
  dsimp only
  split
  · exact h.takeHostRequest
  · exact h.sendStandIns

theorem TableInv.decide {q : HostRequest} (h : TableInv s) : TableInv (s.decide q) := by
  unfold State.decide
  split
  · exact h.answerWindowRead
  · exact h.serveManagement
  · exact h.slotRequest
  · exact h.answerUnrouted

theorem TableInv.arrive {q : HostRequest} (h : TableInv s) : TableInv (s.arrive q) := by
  unfold State.arrive
  split
  · exact h.decide
  · exact h.outside

theorem TableInv.retakeFirst (h : TableInv s) : TableInv s.retakeFirst := by
  unfold State.retakeFirst
  split
  · exact h.outside
  · next q rest _ =>
    have hlink : TableInv { s with hostQueue := rest, withheld := none } := h.outside
    exact hlink.decide

theorem TableInv.retakeFor (h : TableInv s) : TableInv (s.retakeFor i) := by
  unfold State.retakeFor
  split
  · exact h.retakeFirst
  · exact h

/-! ### The freeing and settling of entries -/

/-- R27: the entry that is handed on is FREE. -/
theorem TableInv.handOn {k : Fin 32} (h : TableInv s) (hk : ((s.slots[i]).trk.ort[k]).body = none) :
    TableInv (s.handOn i k) := by
  unfold State.handOn
  dsimp only
  split
  · exact h.onTracker.openController (by simpa [State.onTracker] using hk)
  · next item rest _ hhold =>
    have hitem := (h.tabled i).1.held item (by rw [hhold]; exact List.mem_cons_self)
    have hremoved : TableInv (s.onTracker i fun t => { t with hold := rest }) :=
      h.holdRemoved (by rw [hhold]; exact List.sublist_cons_self item rest)
    exact (hremoved.openEntry (by simpa [State.onTracker] using hk) hitem.le).retakeFor
  · exact h

theorem Tracker.freed_ort (t : Tracker) (k : Fin 32) :
    (t.freed k).ort = t.ort.set k { gen := (t.ort[k]).gen + 1, body := none } := by
  rw [freed_eq_withFreed]
  rfl

theorem TableInv.freed {k : Fin 32} (h : TableInv s) : TableInv (s.onTracker i fun t => t.freed k) := by
  refine h.trackerChanged ?_
  rw [freed_eq_withFreed]
  exact (h.tabled i).1.freed

theorem TableInv.freeEntry {k : Fin 32} (h : TableInv s) : TableInv (s.freeEntry i k) := by
  unfold State.freeEntry
  dsimp only
  split
  · exact h.freed.handOn (by simp [State.onTracker, Tracker.freed_ort])
  · exact h.freed

theorem TableInv.endOwner {o : RequestOwner} (h : TableInv s) : TableInv (s.endOwner i o) := by
  have hwithdrawn : TableInv (if (s.slots[i]).trk.waiting.any (·.owner == o) then
      s.onTracker i fun t => { t with waiting := none } else s) := by
    split
    · exact h.onTracker
    · exact h
  unfold State.endOwner
  dsimp only
  split
  · exact hwithdrawn.freeEntry
  · exact hwithdrawn

theorem TableInv.drainHold (h : TableInv s) : TableInv (s.drainHold i).state := by
  unfold State.drainHold
  dsimp only
  split
  · exact h
  · exact (h.sendStandIns.holdRemoved (List.nil_sublist _)).retakeFor

theorem TableInv.settleEntry {r : Settled} {k : Fin 32} (h : TableInv r.state) :
    TableInv (State.settleEntry i r k).state := by
  unfold State.settleEntry
  dsimp only
  split
  · exact h
  · split
    · exact h.freeEntry
    · exact h.sendStandIns.freeEntry

theorem TableInv.closeAll (h : TableInv s) : TableInv (s.closeAll i).state := by
  have hsettled : ∀ (ks : List (Fin 32)) (r : Settled), TableInv r.state →
      TableInv (ks.foldl (State.settleEntry i) r).state := by
    intro ks
    induction ks with
    | nil => exact fun _ hr => hr
    | cons k ks ih => exact fun r hr => ih _ hr.settleEntry
  unfold State.closeAll
  dsimp only
  exact (hsettled _ _ h).onTracker

theorem TableInv.shadowUpdate {kind : EntryKind} (h : TableInv s) : TableInv (s.shadowUpdate i kind) := by
  unfold State.shadowUpdate
  split
  · exact h.onSlot
  all_goals exact h

theorem TableInv.reportProgress (h : TableInv s) : TableInv (s.reportProgress i) := h.onSlot

/-! ### The capture engine -/

theorem TableInv.setCapture {c : Option Capture} (h : TableInv s) : TableInv (s.setCapture i c) := h.onSlot

theorem TableInv.startCapture (h : TableInv s) : TableInv (s.startCapture i) := h.setCapture.issueController

theorem TableInv.endCapture {c : Capture} {outcome : OrderOutcome} {reason : Reason} (h : TableInv s) :
    TableInv (s.endCapture i c outcome reason) := h.setCapture.endOrderOf

theorem TableInv.finishCapture {c : Capture} (h : TableInv s) : TableInv (s.finishCapture i c) := h.onSlot.endCapture

theorem TableInv.advanceCapture {c : Capture} (h : TableInv s) : TableInv (s.advanceCapture i c) := by
  unfold State.advanceCapture
  dsimp only
  split
  · exact h.setCapture.issueController
  · exact h.finishCapture

theorem TableInv.continueCapture {c : Capture} (h : TableInv s) : TableInv (s.continueCapture i c) := by
  unfold State.continueCapture
  split
  · exact h.endCapture
  · exact h.advanceCapture

theorem TableInv.recordResult {c : Capture} {k : Fin 64} {result : RequestResult} (h : TableInv s) :
    TableInv (s.recordResult i c k result) := by
  unfold State.recordResult
  dsimp only
  split
  · exact h.onSlot.continueCapture
  · exact h.continueCapture

theorem TableInv.captureResult {result : RequestResult} (h : TableInv s) : TableInv (s.captureResult i result) := by
  unfold State.captureResult
  split
  · exact h
  · split
    · exact h.onSlot.continueCapture
    · exact h.recordResult

theorem TableInv.captureLeaves (h : TableInv s) : TableInv (s.captureLeaves i) := by
  unfold State.captureLeaves
  split
  · exact h
  · dsimp only
    split
    · exact h.endOwner.endCapture
    · exact h.endOwner.endCapture

theorem TableInv.cancelCapture (h : TableInv s) : TableInv (s.cancelCapture i) := by
  unfold State.cancelCapture
  split
  · exact h
  · split
    · exact h.setCapture
    · exact h.endOwner.endCapture

/-! ### The Recovery Sequencer -/

theorem TableInv.grant (h : TableInv s) : TableInv (s.grant i) := by
  unfold State.grant
  split
  · exact h
  · exact h.setQueue.setPlan.assertLine.raise

theorem TableInv.grantIfIdle (h : TableInv s) : TableInv s.grantIfIdle := by
  unfold State.grantIfIdle
  split
  · exact h
  · split
    · exact h.grant
    · exact h

variable {p : Plan}

theorem TableInv.stopPlan (h : TableInv s) : TableInv (s.stopPlan p) :=
  h.endOwner.setPlan.setSlotState.setAttempt.raise.endOrderOf

theorem TableInv.abandonPlan (h : TableInv s) : TableInv (s.abandonPlan p) := h.endOwner.setPlan

theorem TableInv.setAside (h : TableInv s) : TableInv s.setAside := by
  unfold State.setAside
  split
  · exact h
  · split
    · split
      · exact h.stopPlan
      · exact h.assertLine.setQueue.setPlan.onSlot
    · exact h

theorem TableInv.arbitrate (h : TableInv s) : TableInv s.arbitrate := h.setAside.grantIfIdle

theorem TableInv.joinQueue {level : Level} (h : TableInv s) : TableInv (s.joinQueue i level) :=
  h.setSlotState.setAttempt.setQueue.raise.arbitrate

theorem TableInv.retireAfterFailure {why failure : Reason} {b : Dword} (h : TableInv s) :
    TableInv (s.retireAfterFailure p why failure b) :=
  h.setPlan.assertLine.setSlotState.fileIncident.raise.endOrderOf.grantIfIdle

theorem TableInv.requeue (h : TableInv s) : TableInv (s.requeue p) := h.setPlan.setAttempt.setQueue.grantIfIdle

theorem TableInv.fileFailure {reason : Reason} {c : Option Dword} (h : TableInv s) :
    TableInv (s.fileFailure p reason c) := h.endOwner.fileIncident

theorem TableInv.failAttempt {reason : Reason} {c : Option Dword} (h : TableInv s) :
    TableInv (s.failAttempt p reason c) := by
  unfold State.failAttempt
  dsimp only
  split
  · exact h.fileFailure.retireAfterFailure
  · split
    · exact h.fileFailure.requeue
    · exact h.fileFailure.retireAfterFailure

theorem TableInv.planSucceeds (h : TableInv s) : TableInv (s.planSucceeds p) :=
  h.becomeActive.fileIncident.setAttempt.raise.endOrderOf.setPlan.grantIfIdle

theorem TableInv.planIssues (h : TableInv s) : TableInv (s.planIssues p) := h.setPlan.issueController

theorem TableInv.restoreFrom {cursor : Nat} (h : TableInv s) : TableInv (s.restoreFrom p cursor) := by
  unfold State.restoreFrom
  dsimp only
  split
  · exact h.planIssues
  · exact h.planSucceeds

theorem TableInv.recordDone (h : TableInv s) : TableInv (s.recordDone p) := by
  unfold State.recordDone
  split
  · exact h.restoreFrom
  · exact h.setPlan

theorem TableInv.retryRecord (h : TableInv s) : TableInv (s.retryRecord p) := h.setPlan

theorem TableInv.identityAnswered {v : Dword} (h : TableInv s) : TableInv (s.identityAnswered p v) := by
  unfold State.identityAnswered
  dsimp only
  split
  · exact h.failAttempt
  · exact h.restoreFrom

theorem TableInv.settlingResult {result : RequestResult} (h : TableInv s) : TableInv (s.settlingResult p result) := by
  unfold State.settlingResult
  split
  · exact h.identityAnswered
  · exact h.setPlan
  · exact h.failAttempt

theorem TableInv.recordAnswered {v : Dword} (h : TableInv s) : TableInv (s.recordAnswered p v) := by
  unfold State.recordAnswered
  split
  · dsimp only
    split
    · exact h.planIssues
    · exact h.recordDone
  · split
    · exact h.recordDone
    · exact h.failAttempt

theorem TableInv.restoringResult {result : RequestResult} (h : TableInv s) :
    TableInv (s.restoringResult p result) := by
  unfold State.restoringResult
  split
  · exact h.recordAnswered
  · exact h.retryRecord
  · exact h.failAttempt
  · exact h.failAttempt

theorem TableInv.planEvent {act : Plan → State → State} (h : TableInv s) (ha : TableInv (act p s)) :
    TableInv (s.planEvent p act) := by
  unfold State.planEvent
  split
  · exact h.stopPlan.grantIfIdle
  · exact ha

theorem TableInv.planResult {result : RequestResult} (h : TableInv s) : TableInv (s.planResult i result) := by
  unfold State.planResult
  split
  · exact h
  · split
    · refine h.planEvent ?_
      split
      · exact h.settlingResult
      · exact h.restoringResult
      · exact h
      · exact h
    · exact h

theorem TableInv.ownerResult {o : RequestOwner} {result : RequestResult} (h : TableInv s) :
    TableInv (s.ownerResult i o result) := by
  cases o with
  | capture => exact h.captureResult
  | plan => exact h.planResult

theorem TableInv.enterSettling (h : TableInv s) : TableInv (s.enterSettling p) := h.planIssues

theorem TableInv.enterTraining (h : TableInv s) : TableInv (s.enterTraining p) := h.releaseLine.setPlan

theorem TableInv.adopt {level : Level} (h : TableInv s) : TableInv (s.adopt i level) := by
  unfold State.adopt
  split
  · exact h
  · split
    · exact h.setQueue.arbitrate
    · split
      · split
        · exact h.setPlan
        · exact h
      · exact h

theorem TableInv.giveUp {atRemoval : Bool} (h : TableInv s) : TableInv (s.giveUp i atRemoval) := by
  unfold State.giveUp
  dsimp only
  split
  · split
    · split
      · exact h.setQueue.stopPlan
      · exact h.setQueue.abandonPlan
    · exact h.setQueue
  · exact h.setQueue

/-! ### The Containment Unit -/

theorem TableInv.announceLeave (h : TableInv s) : TableInv (s.announceLeave i) :=
  h.onTracker.retakeFor.dropWaitingRead.captureLeaves

theorem TableInv.addTally {completions requests : Nat} (h : TableInv s) :
    TableInv (s.addTally i completions requests) := h.onCu

theorem TableInv.abruptClose {st : SlotState} (h : TableInv s) : TableInv (s.abruptClose i st).state := by
  unfold State.abruptClose
  dsimp only
  refine TableInv.closeAll (TableInv.drainHold (TableInv.onCu ?_))
  split
  · exact h.setSlotState.announceLeave
  · exact h.setSlotState

theorem TableInv.retireByOrder {taken : SlotState} (h : TableInv s) : TableInv (s.retireByOrder i taken) :=
  h.abruptClose.assertLine.fileIncident.raise.endOrderOf

theorem TableInv.applyFollowUp (h : TableInv s) : TableInv (s.applyFollowUp i) := by
  unfold State.applyFollowUp
  dsimp only
  split
  · exact h.onCu.retireByOrder
  · exact h.onCu.joinQueue
  · split
    · exact h.onCu.joinQueue
    · exact h.onCu

theorem TableInv.reachFenced (h : TableInv s) : TableInv (s.reachFenced i) :=
  h.setSlotState.fileIncident.raise.endOrderOf

theorem TableInv.closeFence (h : TableInv s) : TableInv (s.closeFence i) :=
  h.onCu.closeAll.addTally.reachFenced.applyFollowUp

theorem TableInv.beginFence {cause : FenceCause} (h : TableInv s) : TableInv (s.beginFence i cause) := by
  unfold State.beginFence
  dsimp only
  split
  · exact h.onCu.announceLeave.drainHold.addTally.closeFence
  · exact h.onCu.announceLeave.drainHold.addTally.onCu

theorem TableInv.endGraceIfEmpty (h : TableInv s) : TableInv (s.endGraceIfEmpty i) := by
  unfold State.endGraceIfEmpty
  dsimp only
  split
  · exact h.closeFence
  · exact h

theorem TableInv.takeTrigger (h : TableInv s) : TableInv (s.takeTrigger i) := by
  unfold State.takeTrigger
  dsimp only
  split
  · exact h
  · split
    · exact h.onCu.beginFence
    · exact h.onCu

theorem TableInv.planLinkLoss (h : TableInv s) : TableInv (s.planLinkLoss i) := by
  unfold State.planLinkLoss
  split
  · exact h
  · split
    · exact h.planEvent h.failAttempt
    · exact h

theorem TableInv.reportLinkLoss (h : TableInv s) : TableInv (s.reportLinkLoss i) := by
  unfold State.reportLinkLoss
  split
  · exact h.beginFence
  · split
    · exact h.closeFence
    · exact h
  · exact h.planLinkLoss
  all_goals exact h

theorem TableInv.takeFatalMessage {requesterId : BitVec 16} (h : TableInv s) :
    TableInv (s.takeFatalMessage i requesterId) := by
  unfold State.takeFatalMessage
  dsimp only
  split
  · exact h.fileIncident.beginFence
  · exact h.fileIncident

/-! ### The Order Unit -/

theorem TableInv.refuseState {reason : Reason} (h : TableInv s) : TableInv (s.refuseState i reason) := h.endOrder

theorem TableInv.takeSettings (h : TableInv s) : TableInv (s.takeSettings i) := h.onSlot

theorem TableInv.orderApply (h : TableInv s) : TableInv (s.orderApply i) := by
  unfold State.orderApply
  dsimp only
  split
  · exact h.endOrder
  · split
    · exact h.endOrder
    · split
      · exact h.endOrder
      · exact h.takeSettings.endOrder

theorem TableInv.orderCapture (h : TableInv s) : TableInv (s.orderCapture i) := by
  unfold State.orderCapture
  split
  · exact h.startCapture
  · exact h.refuseState

theorem TableInv.orderFence (h : TableInv s) : TableInv (s.orderFence i) := by
  unfold State.orderFence
  split
  · exact h.reportTrigger
  · exact h
  · exact h.endOrder
  all_goals exact h.refuseState

theorem TableInv.setFollowUp {f : FollowUp} (h : TableInv s) : TableInv (s.setFollowUp i f) := h.onCu

theorem TableInv.orderRecover {level : Level} (h : TableInv s) : TableInv (s.orderRecover i level) := by
  unfold State.orderRecover
  split
  · exact h.joinQueue
  · exact h.joinQueue
  · exact h.setFollowUp.reportTrigger
  · exact h.setFollowUp
  · exact h.adopt
  all_goals exact h.refuseState

theorem TableInv.orderLift (h : TableInv s) : TableInv (s.orderLift i) := by
  unfold State.orderLift
  dsimp only
  split
  · split
    · exact h.becomeActive.raise.endOrder
    · exact h.refuseState
  · exact h.refuseState

theorem TableInv.orderRetire (h : TableInv s) : TableInv (s.orderRetire i) := by
  unfold State.orderRetire
  split
  · exact h.retireByOrder
  · exact h.retireByOrder
  · exact h.giveUp.retireByOrder.grantIfIdle
  · exact h.setFollowUp.reportTrigger
  · exact h.setFollowUp
  · exact h.endOrder
  · exact h.refuseState

theorem TableInv.orderReinstate (h : TableInv s) : TableInv (s.orderReinstate i) := by
  unfold State.orderReinstate
  split
  · exact h.setSlotState.setAttempt.raise.endOrder
  · exact h.refuseState

theorem TableInv.judgeOrder {code : Byte} {level : Level} (h : TableInv s) : TableInv (s.judgeOrder i code level) := by
  unfold State.judgeOrder
  split
  · exact h.orderApply
  · exact h.orderCapture
  · exact h.orderFence
  · exact h.orderRecover
  · exact h.orderLift
  · exact h.orderRetire
  · exact h.orderReinstate
  · exact h.endOrder

theorem TableInv.takeOrder {c : OrderCell} (h : TableInv s) : TableInv (s.takeOrder i c) :=
  h.onOrderUnit.clearAttention.judgeOrder

theorem TableInv.writeOrderCell {w : CellWrite} (h : TableInv s) : TableInv (s.writeOrderCell i w) := by
  unfold State.writeOrderCell
  dsimp only
  split
  · split
    · exact h.onOrderUnit
    · split
      · exact h.takeOrder
      · exact h.onOrderUnit
  · exact h

theorem TableInv.handOver {code : Byte} {number : BitVec 16} {priority : Byte} (h : TableInv s) :
    TableInv (s.handOver i code number priority) := h.writeOrderCell

theorem TableInv.cancelQueued (h : TableInv s) : TableInv (s.cancelQueued i) :=
  h.setQueue.setSlotState.setAttempt.raise.endOrder

theorem TableInv.cancelRecover (h : TableInv s) : TableInv (s.cancelRecover i) := by
  unfold State.cancelRecover
  dsimp only
  split
  · exact h.setFollowUp.endOrder
  · exact h.setFollowUp.endOrder
  · split
    · exact h.cancelQueued
    · split
      · split
        · exact h.setPlan
        · exact h
      · exact h
  all_goals exact h

theorem TableInv.takeCancel (h : TableInv s) : TableInv (s.takeCancel i) := by
  unfold State.takeCancel
  dsimp only
  split
  · split
    · exact h.onOrderUnit.cancelCapture
    · split
      · exact h.onOrderUnit.cancelRecover
      · exact h.onOrderUnit
  · exact h

end

end Sys2Proof.Machine

/-! PROOF. The resets, software writes, traffic, port events and expiries keep the tables in order; so does every step. -/

namespace Sys2Proof.Machine

open Sys2Proof

section
variable {s : State} {i : SlotId}

/-! ### Resets -/

/-- R42, R98: a hierarchy reset leaves every entry FREE, or as it was and within its bytes requested. -/
theorem Slot.Tabled.hierarchyReset (sl : Slot) (now : Tick) : (sl.hierarchyReset now).Tabled := by
  constructor
  · apply TablesAgree.of_all_free
    intro k
    simp only [Slot.hierarchyReset, Tracker.hierarchyReset, getElem_mapVector]
    split
    · rfl
    · next hfree => simpa using hfree
  · intro k b hb
    simp only [Slot.hierarchyReset, freedReturnMap, getElem_mapVector] at hb
    split at hb
    · cases hb
    · next hfree => exact absurd (by rw [hb]; rfl) hfree

theorem TableInv.hierarchyReset (h : TableInv s) : TableInv s.hierarchyReset :=
  h.mapSlots fun sl _ => Slot.Tabled.hierarchyReset sl s.now

theorem TableInv.linkReset (h : TableInv s) : TableInv s.linkReset := h.hierarchyReset.outside

theorem TableInv.commandedReset (h : TableInv s) : TableInv s.commandedReset := by
  unfold State.commandedReset
  dsimp only
  split
  · exact h.hierarchyReset.retakeFirst
  · exact h.hierarchyReset

theorem TableInv.applyDevice (h : TableInv s) : TableInv s.applyDevice := h.outside

/-- The tables after power-on reset (R41, R98). -/
theorem tableInv_reset : TableInv State.reset := by
  rw [tableInv_iff]
  intro i
  have hslot : State.reset.slots[i] = Slot.reset := by simp [State.reset]
  rw [hslot]
  refine ⟨TablesAgree.of_all_free fun k => by simp [Slot.reset, Tracker.reset], fun k b hb => ?_⟩
  simp [Slot.reset] at hb

theorem TableInv.powerOn : TableInv s.powerOn := tableInv_reset.outside

/-! ### Software writes -/

theorem TableInv.writeAttn {enables : BitVec 4} {value : Dword} (h : TableInv s) :
    TableInv (s.writeAttn enables value) := h.outside

theorem TableInv.writeAttnEnable {enables : BitVec 4} {value : Dword} (h : TableInv s) :
    TableInv (s.writeAttnEnable enables value) := h.outside

theorem TableInv.writeIncidentState {k : Fin 8} {v : Byte} (h : TableInv s) :
    TableInv (s.writeIncidentState i k v) := h.onSlot

theorem TableInv.writeCancel {v : Byte} (h : TableInv s) : TableInv (s.writeCancel i v) := by
  unfold State.writeCancel
  split
  · exact h.onOrderUnit
  · exact h

theorem TableInv.writeRecordByte {k : Fin 64} {off : Nat} {v : Byte} (h : TableInv s) :
    TableInv (s.writeRecordByte i k off v) := h.onSlot

theorem TableInv.storePageByte {off : Nat} {v : Byte} (h : TableInv s) : TableInv (s.storePageByte i off v) := by
  unfold State.storePageByte
  split
  · exact h
  split
  · split
    · exact h.writeCancel
    · exact h
  split
  · exact h
  split
  · exact h.onSlot
  split
  · exact h
  split
  · split
    · exact h.writeIncidentState
    · exact h
  split
  · exact h.onSlot
  split
  · exact h.writeRecordByte
  · exact h

theorem TableInv.storeDeviceByte {a : Nat} {v : Byte} (h : TableInv s) : TableInv (s.storeDeviceByte a v) := by
  unfold State.storeDeviceByte
  split
  · exact h.writeAttn
  split
  · exact h.writeAttnEnable
  split
  · exact h.outside
  · exact h

theorem TableInv.storeByte {a : Nat} {v : Byte} (h : TableInv s) : TableInv (s.storeByte a v) := by
  unfold State.storeByte
  split
  · exact h.storeDeviceByte
  · split
    · exact h.storePageByte
    · exact h

theorem TableInv.deviceControl {v : Byte} (h : TableInv s) : TableInv (s.deviceControl v) := by
  have happlied : TableInv (if v.getLsbD 0 then s.applyDevice else s) := by
    split
    · exact h.applyDevice
    · exact h
  unfold State.deviceControl
  dsimp only
  split
  · exact happlied.commandedReset
  · exact happlied

theorem TableInv.deviceControlOf {ws : List (Nat × Byte)} (h : TableInv s) : TableInv (s.deviceControlOf ws) := by
  unfold State.deviceControlOf
  split
  · exact h.deviceControl
  · exact h

theorem TableInv.writeWindow {w : WindowWrite} (h : TableInv s) : TableInv (s.writeWindow w) := by
  unfold State.writeWindow
  refine TableInv.foldl (TableInv.deviceControlOf (TableInv.foldl h ?_)) ?_
  · exact fun _ _ hu => hu.storeByte
  · exact fun _ _ hu => hu.writeOrderCell

/-! ### Card traffic -/

theorem State.forwardMatched_slots (s : State) (b : OrtBody) (c : Completion) :
    (s.forwardMatched b c).slots = s.slots := by
  unfold State.forwardMatched
  split
  · rfl
  · split <;> rfl

theorem TableInv.forwardMatched {b : OrtBody} {c : Completion} (h : TableInv s) : TableInv (s.forwardMatched b c) :=
  h.outside (s.forwardMatched_slots b c)

theorem TableInv.keepOpen {k : Fin 32} {b : OrtBody} {c : Completion} (h : TableInv s)
    (hb : ((s.slots[i]).trk.ort[k]).body = some b) : TableInv (s.keepOpen i k b c) := by
  unfold State.keepOpen
  refine h.trackerChanged ((h.tabled i).1.adjusted (by rw [hb]; exact nofun) ?_)
  exact (Nat.sub_le _ _).trans ((h.tabled i).1.owed k b hb)

theorem TableInv.shadowOf {b : OrtBody} {c : Completion} (h : TableInv s) : TableInv (s.shadowOf i b c) := by
  unfold State.shadowOf
  split
  · exact h
  · split
    · exact h.shadowUpdate
    · exact h

theorem TableInv.fileOverrun {k : Fin 32} {b : OrtBody} {c : Completion} (h : TableInv s) :
    TableInv (s.fileOverrun i k b c) := by
  unfold State.fileOverrun
  split
  · exact h.countOverrun.fileIncident
  · exact h

theorem TableInv.passResult {b : OrtBody} {c : Completion} (h : TableInv s) : TableInv (s.passResult i b c) := by
  unfold State.passResult
  split
  · exact h.ownerResult
  · exact h

theorem TableInv.takeMatched {k : Fin 32} {b : OrtBody} {c : Completion} (h : TableInv s)
    (hb : ((s.slots[i]).trk.ort[k]).body = some b) : TableInv (s.takeMatched i k b c) := by
  unfold State.takeMatched
  dsimp only
  split
  · exact h.forwardMatched.freeEntry.shadowOf.fileOverrun.passResult
  · exact h.forwardMatched.keepOpen (by rw [s.forwardMatched_slots]; exact hb)

theorem TableInv.afterMatched {st : SlotState} (h : TableInv s) : TableInv (s.afterMatched i st) := by
  unfold State.afterMatched
  split
  · exact h.reportProgress
  · exact h.reportProgress.endGraceIfEmpty
  all_goals exact h

theorem TableInv.cardCompletion {c : Completion} (h : TableInv s) : TableInv (s.cardCompletion i c) := by
  unfold State.cardCompletion
  dsimp only
  split
  · next b hb =>
    split
    · exact (h.takeMatched hb).afterMatched
    · exact h.countLate
  · exact h.countLate

theorem TableInv.cardPosted {p : HostPacket} (h : TableInv s) : TableInv (s.cardPosted i p) := by
  unfold State.cardPosted
  split
  · exact h.emit
  · exact h.countCardDropped

theorem TableInv.cardMessage {m : CardMessage} (h : TableInv s) : TableInv (s.cardMessage i m) := by
  have hposted : TableInv (s.cardPosted i (.message m)) := h.cardPosted
  unfold State.cardMessage
  dsimp only
  split
  · exact hposted.takeFatalMessage
  · exact hposted

theorem TableInv.cardOther {requesterId : BitVec 16} {tag : BitVec 10} {nonPosted : Bool} (h : TableInv s) :
    TableInv (s.cardOther i requesterId tag nonPosted) := by
  unfold State.cardOther
  split
  · exact h.pushOutbound
  · exact h.countCardDropped

/-! ### Host traffic -/

theorem TableInv.slotPosted {p : CardPacket} (h : TableInv s) : TableInv (s.slotPosted i p) := by
  unfold State.slotPosted
  split
  · exact h.pushOutbound
  · exact h.countPostedDiscarded

theorem TableInv.hostMemWrite {r : MemRequest} {data : List Dword} (h : TableInv s) :
    TableInv (s.hostMemWrite r data) := by
  unfold State.hostMemWrite
  split
  · exact h.writeWindow
  · exact h.slotPosted
  · exact h.countUnrouted
  · exact h.countUnrouted

theorem TableInv.hostMessage {m : HostMessage} (h : TableInv s) : TableInv (s.hostMessage m) := by
  unfold State.hostMessage
  split
  · exact h
  · split
    · exact h.slotPosted
    · exact h.countUnrouted
  · exact h.foldl fun _ _ hu => hu.slotPosted

theorem TableInv.returnMatched {k : Fin 16} {b : ReturnBody} {c : Completion} (h : TableInv s)
    (hb : b.bytesOwed ≤ b.bytesRequested) : TableInv (s.returnMatched i k b c) := by
  have htaken : TableInv (if (s.slots[i]).cu.st = .active then
      s.pushOutbound i (.completion { c with requesterId := b.requesterId, tag := b.tag }) else s.countStale i) := by
    split
    · exact h.pushOutbound
    · exact h.countStale
  unfold State.returnMatched
  dsimp only
  split
  · exact htaken.freeReturn
  · refine htaken.returnSet (f := fun sl => { sl.rmap[k] with body := some { b with bytesOwed := _ } }) fun b' hb' => ?_
    cases hb'
    exact (Nat.sub_le _ _).trans hb

theorem TableInv.hostCompletion {c : Completion} (h : TableInv s) : TableInv (s.hostCompletion c) := by
  unfold State.hostCompletion
  dsimp only
  split
  · next b hb =>
    split
    · exact h.returnMatched ((h.tabled _).2 _ b hb)
    · exact h.countStale
  · exact h.countStale

/-! ### Port events -/

theorem TableInv.cardArrives (h : TableInv s) : TableInv (s.cardArrives i) := h.setSlotState.fileIncident.raise

theorem TableInv.removalGivesUp (h : TableInv s) : TableInv (s.removalGivesUp i) := by
  unfold State.removalGivesUp
  refine TableInv.setAttempt ?_
  split
  · exact h.giveUp
  · exact h

theorem TableInv.removalReports {st : SlotState} {ph : Phase} {made : Nat} (h : TableInv s) :
    TableInv (s.removalReports i st ph made) := h.assertLine.endOrder.fileIncident.raise

theorem TableInv.cardRemoved (h : TableInv s) : TableInv (s.cardRemoved i) := by
  unfold State.cardRemoved
  dsimp only
  split
  · exact h.removalGivesUp.abruptClose.removalReports.grantIfIdle
  · exact h.removalGivesUp.abruptClose.removalReports

theorem TableInv.presenceSample {reading : Presence} (h : TableInv s) : TableInv (s.presenceSample i reading) := by
  have hport : TableInv (s.onPort i fun q => q.sampled reading) := h.onPort
  have hsampled : TableInv { (s.onPort i fun q => q.sampled reading) with
      wires.presence := s.wires.presence.set i reading } := hport.outside
  unfold State.presenceSample
  dsimp only
  split
  · split
    · exact hsampled.cardArrives
    · exact hsampled.cardRemoved
  · exact hsampled

theorem TableInv.linkBecomesUp (h : TableInv s) : TableInv (s.linkBecomesUp i) := h.onPort

theorem TableInv.tellLinkUp (h : TableInv s) : TableInv (s.tellLinkUp i) := by
  unfold State.tellLinkUp
  split
  · split
    · exact h.planEvent h.enterSettling
    · exact h
  · exact h

theorem TableInv.fileLinkDown (h : TableInv s) : TableInv (s.fileLinkDown i) := h.fileIncident

theorem TableInv.drainOutbound {count : Nat} (h : TableInv s) : TableInv (s.drainOutbound i count) := by
  unfold State.drainOutbound
  have hdrained : TableInv (s.onPort i fun q => { q with outbound := (s.slots[i]).port.outbound.drop count }) :=
  h.onPort
  exact hdrained.outside

/-! ### The sequencer's timers -/

theorem TableInv.startReached (h : TableInv s) : TableInv (s.startReached i) := by
  unfold State.startReached
  split
  · split
    · exact h.setQueue.arbitrate
    · exact h
  · exact h

theorem TableInv.onPlanTimer {timer : Plan → Option Tick} {act : Plan → State → State} (h : TableInv s)
    (ha : ∀ p, TableInv (act p s)) : TableInv (s.onPlanTimer timer act) := by
  unfold State.onPlanTimer
  split
  · split
    · exact h.planEvent (ha _)
    · exact h
  · exact h

theorem TableInv.retryRequest {p : Plan} (h : TableInv s) : TableInv (s.retryRequest p) := h.planIssues

theorem TableInv.delayEnds {p : Plan} (h : TableInv s) : TableInv (s.delayEnds p) := h.restoreFrom

/-! ### The Tracker's timers -/

theorem TableInv.reportExpiry {reason : Reason} {index : Nat} {b : OrtBody} (h : TableInv s) :
    TableInv (s.reportExpiry i reason index b) := h.countTimeout.fileIncident

theorem TableInv.applyTimeoutAction (h : TableInv s) : TableInv (s.applyTimeoutAction i) := by
  unfold State.applyTimeoutAction
  dsimp only
  split
  · exact h.reportTrigger
  · split
    · exact h.onTracker.reportTrigger
    · exact h.onTracker

theorem TableInv.afterExpiry {st : SlotState} (h : TableInv s) : TableInv (s.afterExpiry i st) := by
  unfold State.afterExpiry
  split
  · exact h.applyTimeoutAction
  · exact h.endGraceIfEmpty
  all_goals exact h

theorem TableInv.settleExpired {k : Fin 32} {b : OrtBody} (h : TableInv s) : TableInv (s.settleExpired i k b) := by
  unfold State.settleExpired
  dsimp only
  split
  · exact h.sendStandIns.freeEntry.addTally
  · exact h.sendStandIns.freeEntry

theorem TableInv.expireEntry {k : Fin 32} {b : OrtBody} (h : TableInv s) : TableInv (s.expireEntry i k b) :=
  h.settleExpired.reportExpiry.afterExpiry

theorem TableInv.settleHeld {position : Nat} {item : HoldItem} (h : TableInv s) :
    TableInv (s.settleHeld i position item) := by
  unfold State.settleHeld
  exact (h.sendStandIns.holdRemoved (List.eraseIdx_sublist _ _)).retakeFor

theorem TableInv.expireHeld {position : Nat} {item : HoldItem} (h : TableInv s) :
    TableInv (s.expireHeld i position item) := h.settleHeld.reportExpiry.afterExpiry

theorem TableInv.expireController {k : Fin 32} {o : RequestOwner} {b : OrtBody} (h : TableInv s) :
    TableInv (s.expireController i k o b) := h.freeEntry.reportExpiry.ownerResult.afterExpiry

theorem TableInv.expireWatch (h : TableInv s) : TableInv (s.expireWatch i) := h.onTracker.fileIncident.reportTrigger

theorem TableInv.expireReturn {k : Fin 16} {b : ReturnBody} (h : TableInv s) : TableInv (s.expireReturn i k b) :=
  h.fileIncident.freeReturn

end

/-! ### Commands and steps -/

/-- Every command keeps the tables in order. -/
theorem TableInv.effect {s : State} (h : TableInv s) (c : Instr) :
    ∃ u, TableInv u ∧ exec c s = .next (settleInterrupt s u) := by
  cases c with
  | powerOnReset => exact ⟨_, TableInv.powerOn, rfl⟩
  | upstreamHotReset => exact ⟨_, h.linkReset, rfl⟩
  | upstreamLinkDown => exact ⟨_, h.linkReset, rfl⟩
  | hierarchyReset applyToo => exact ⟨_, h.deviceControl, rfl⟩
  | applyDevice => exact ⟨_, h.deviceControl, rfl⟩
  | attnWrite enables value => exact ⟨_, h.writeAttn, rfl⟩
  | attnEnableWrite enables value => exact ⟨_, h.writeAttnEnable, rfl⟩
  | orderApply i number priority => exact ⟨_, h.handOver, rfl⟩
  | orderCapture i number priority => exact ⟨_, h.handOver, rfl⟩
  | orderFence i number priority => exact ⟨_, h.handOver, rfl⟩
  | orderRecover i number priority => exact ⟨_, h.handOver, rfl⟩
  | orderLift i number priority => exact ⟨_, h.handOver, rfl⟩
  | orderRetire i number priority => exact ⟨_, h.handOver, rfl⟩
  | orderReinstate i number priority => exact ⟨_, h.handOver, rfl⟩
  | orderUnknownCode i code number priority => exact ⟨_, h.handOver, rfl⟩
  | orderCellWrite i w => exact ⟨_, h.writeOrderCell, rfl⟩
  | cancelCellWrite i value => exact ⟨_, h.writeCancel, rfl⟩
  | cancelTaken i => exact ⟨_, h.takeCancel, rfl⟩
  | incidentStateWrite i k value => exact ⟨_, h.writeIncidentState, rfl⟩
  | swaWrite w => exact ⟨_, h.writeWindow, rfl⟩
  | hostMemRead r => exact ⟨_, h.arrive, rfl⟩
  | hostMemWrite r data => exact ⟨_, h.hostMemWrite, rfl⟩
  | hostCfgRead r => exact ⟨_, h.arrive, rfl⟩
  | hostCfgWrite r data => exact ⟨_, h.arrive, rfl⟩
  | hostMessage m => exact ⟨_, h.hostMessage, rfl⟩
  | hostUnrecognisedRequest requesterId tag nonPosted => exact ⟨_, h.arrive.ite h.countUnrouted, rfl⟩
  | hostCompletion c => exact ⟨_, h.hostCompletion, rfl⟩
  | cardCompletion i c => exact ⟨_, h.cardCompletion, rfl⟩
  | cardMemRead i r => exact ⟨_, h.ite h.takeCardRead, rfl⟩
  | cardMemWrite i r data => exact ⟨_, h.cardPosted, rfl⟩
  | cardMessage i m => exact ⟨_, h.cardMessage, rfl⟩
  | cardConfigRequest i requesterId tag nonPosted => exact ⟨_, h.ite h.cardOther, rfl⟩
  | waitingHostRequestRetaken => exact ⟨_, h.retakeFirst, rfl⟩
  | cardReadHandover i => exact ⟨_, h.handOverRead, rfl⟩
  | presenceSample i reading => exact ⟨_, h.presenceSample, rfl⟩
  | linkUp i => exact ⟨_, h.linkBecomesUp.tellLinkUp.ite h, rfl⟩
  | linkLoss i => exact ⟨_, h.takeLinkDown.fileLinkDown.reportLinkLoss.ite h, rfl⟩
  | deadlineExpiry i k =>
    refine ⟨_, ?_, rfl⟩
    dsimp only
    split
    · exact h.expireEntry
    · exact h
  | heldItemExpiry i position =>
    refine ⟨_, ?_, rfl⟩
    dsimp only
    split
    · exact h.expireHeld
    · exact h
  | controllerEntryExpiry i k =>
    refine ⟨_, ?_, rfl⟩
    dsimp only
    split
    · exact h.expireController
    · exact h
  | progressWatchExpiry i => exact ⟨_, h.expireWatch.ite h, rfl⟩
  | fenceTrigger i => exact ⟨_, h.takeTrigger, rfl⟩
  | graceExpiry i => exact ⟨_, h.closeFence.ite h, rfl⟩
  | returnLifetimeExpiry i k =>
    refine ⟨_, ?_, rfl⟩
    dsimp only
    split
    · exact h.expireReturn
    · exact h
  | earliestStartReached i => exact ⟨_, h.startReached, rfl⟩
  | planGrant => exact ⟨_, h.grantIfIdle, rfl⟩
  | holdTickExpiry => exact ⟨_, h.onPlanTimer fun _ => h.enterTraining, rfl⟩
  | trainLimitExpiry => exact ⟨_, h.onPlanTimer fun _ => h.failAttempt, rfl⟩
  | settleLimitExpiry => exact ⟨_, h.onPlanTimer fun _ => h.failAttempt, rfl⟩
  | retryTickExpiry => exact ⟨_, h.onPlanTimer fun _ => h.retryRequest, rfl⟩
  | delayTickExpiry => exact ⟨_, h.onPlanTimer fun _ => h.delayEnds, rfl⟩
  | retryLimitExpiry => exact ⟨_, h.onPlanTimer fun _ => h.failAttempt, rfl⟩
  | outboundBufferDrain i count => exact ⟨_, h.drainOutbound.ite h, rfl⟩

theorem TableInv.exec {c : Instr} {s t : State} (h : TableInv s) (ht : exec c s = .next t) : TableInv t := by
  obtain ⟨u, hu, he⟩ := h.effect c
  rw [he, settleInterrupt_eq] at ht
  cases ht
  exact hu.outside

/-- One microsecond leaves the tables as they are. -/
theorem TableInv.tick {s : State} (h : TableInv s) : TableInv s.tick :=
  h.mapSlots (f := fun sl => { sl with port.sampleTimer := sl.port.sampleTimer - 1 }) fun _ ht => ht

/-- Settles O58: every operation keeps the tables of every slot in order, an entry being opened only where it is FREE. -/
theorem tablesKept : Obligations.TablesKept := by
  intro s t hs ht
  unfold step at ht
  split at ht
  · next rest _ =>
    have hrest : TableInv { s with pending := rest } := hs.outside
    exact hrest.exec ht
  · split at ht
    · exact hs.exec ht
    · cases ht
      exact hs.tick

end Sys2Proof.Machine

/-! PROOF. The resets (R41, R42, R60, R63, R98, R110, R165, R166), and what they and a late completion make of
late_completions (R33). -/

namespace Sys2Proof.Machine

open Sys2Proof

section
variable {s : State} {i : SlotId}

/-- R169: an event after which ATTN is 0 sends no interrupt message. -/
theorem withInterrupt_of_attn_zero {s t : State} (h : t.attn = 0) : withInterrupt s t = t := by
  have hsent : interruptSent s t = [] := by
    unfold interruptSent
    rw [h]
    exact if_neg fun hc => hc.2.1 (BitVec.zero_and)
  unfold withInterrupt
  rw [hsent, List.append_nil]

theorem event_next_of_attn_zero {f : State → State} {s t : State} (h : f s = t) (ha : t.attn = 0) :
    event f s = .next t := by
  rw [event_next h, withInterrupt_of_attn_zero ha]

/-! ### Power-on reset (R41) -/

theorem State.powerOn_slot (s : State) (i : SlotId) : s.powerOn.slots[i] = Slot.reset := by
  simp [State.powerOn, State.reset]

theorem State.powerOn_queue (s : State) (i : SlotId) : s.powerOn.queue[i] = none := by
  simp [State.powerOn, State.reset]

theorem exec_powerOnReset (s : State) : exec .powerOnReset s = .next s.powerOn :=
  event_next_of_attn_zero rfl rfl

theorem Slot.reset_ort (k : Fin 32) : Slot.reset.trk.ort[k] = { gen := 0, body := none } := by
  simp [Slot.reset, Tracker.reset]

theorem Slot.reset_rmap (k : Fin 16) : Slot.reset.rmap[k] = { gen := 0, body := none } := by
  simp [Slot.reset]

theorem Slot.reset_records (k : Fin 64) : Slot.reset.ctx.records[k] =
    { state := 0, byteMask := 0, offset := 0, value := 0, verifyMask := 0, serial := 0, delay := 0, verify := 0 } := by
  simp [Slot.reset, ContextStore.reset]

theorem Slot.reset_incident_free (k : Fin 8) : (Slot.reset.inc.records[k]).filled = false := by
  simp [Slot.reset, IncidentRecord.reset]

theorem Slot.reset_openCount : Slot.reset.trk.openCount = 0 :=
  (openCount_eq_zero _).mpr fun k => by rw [Slot.reset_ort]

/-- Settles O3: the state is that of `State.reset` but for what is the outside's, and every slot is `Slot.reset`. -/
theorem powerOnReset : Obligations.PowerOnReset := by
  intro s
  refine ⟨s.powerOn, exec_powerOnReset s, rfl, rfl, rfl, rfl, rfl, rfl, rfl, rfl, rfl, rfl, rfl, rfl, rfl, rfl,
    fun i => ?_⟩
  dsimp only
  rw [s.powerOn_slot, s.powerOn_queue]
  exact ⟨rfl, rfl, rfl, rfl, rfl, rfl, Slot.reset_ort, Slot.reset_openCount, rfl, rfl, rfl, rfl, rfl, Slot.reset_rmap,
    rfl, rfl, rfl, rfl, rfl, rfl, Slot.reset_records, Slot.reset_incident_free, rfl, rfl, rfl, rfl⟩

/-! ### The hierarchy reset (R42, R165, R166) -/

theorem State.hierarchyReset_slot (s : State) (i : SlotId) :
    s.hierarchyReset.slots[i] = (s.slots[i]).hierarchyReset s.now :=
  getElem_mapVector _ _ _

theorem State.hierarchyReset_queue (s : State) (i : SlotId) : s.hierarchyReset.queue[i] = none := by
  simp [State.hierarchyReset]

/-- R42, R60: the entries after a hierarchy reset. -/
theorem Slot.hierarchyReset_ort (sl : Slot) (now : Tick) (k : Fin 32) : (sl.hierarchyReset now).trk.ort[k] =
    if (sl.trk.ort[k]).body = none then sl.trk.ort[k] else { gen := (sl.trk.ort[k]).gen + 1, body := none } := by
  simp only [Slot.hierarchyReset, Tracker.hierarchyReset, getElem_mapVector]
  cases (sl.trk.ort[k]).body <;> rfl

/-- R98: the Return Map entries after a hierarchy reset. -/
theorem Slot.hierarchyReset_rmap (sl : Slot) (now : Tick) (k : Fin 16) : (sl.hierarchyReset now).rmap[k] =
    if (sl.rmap[k]).body = none then sl.rmap[k] else { gen := (sl.rmap[k]).gen + 1, body := none } := by
  simp only [Slot.hierarchyReset, freedReturnMap, getElem_mapVector]
  cases (sl.rmap[k]).body <;> rfl

/-- R110: a Slot Port after a hierarchy reset. -/
theorem Slot.hierarchyReset_port (sl : Slot) (now : Tick) :
    let falls := sl.cu.st ≠ .empty ∧ sl.port.line = .released
    (sl.hierarchyReset now).port = { sl.port with
      line := if falls then .asserted else sl.port.line, link := if falls then .down else sl.port.link,
      epoch := if falls then sl.port.epoch + 1 else sl.port.epoch, outbound := [], waitingRead := none } := by
  simp only [Slot.hierarchyReset, SlotPort.hierarchyReset, bne_iff_ne]
  by_cases hf : sl.cu.st ≠ .empty ∧ sl.port.line = .released
  · simp only [if_pos hf]
  · simp only [if_neg hf]

/-- R148, R157, R166: an Order Unit after a hierarchy reset. -/
theorem Slot.hierarchyReset_ou (sl : Slot) (now : Tick) : (sl.hierarchyReset now).ou =
    { cell := if sl.ou.order = none then sl.ou.cell else { sl.ou.cell with owner := .software }, cancel := false,
      result := match sl.ou.order with
        | none => sl.ou.result
        | some o => { number := o.number, code := o.code, outcome := .aborted, reason := .none, detail1 := 0,
                      detail2 := 0, detail3 := 0, tick := now },
      order := none, collision := false } := by
  simp only [Slot.hierarchyReset, OrderUnit.hierarchyReset, OrderUnit.finish]
  cases h : sl.ou.order with
  | none => simp only [h, if_true]
  | some o => simp [resultOf]

/-- R166: in what the forms of the hierarchy reset agree: the state is that of `State.hierarchyReset` but for the management
function, the requests in the link and the Device Settings. -/
def IsHierarchyReset (s t : State) : Prop :=
  t = { s.hierarchyReset with
    mgmt := t.mgmt, hostQueue := t.hostQueue, withheld := none, device := t.device, deviceCells := t.deviceCells }

/-- R165: the two link forms. -/
theorem exec_linkForm {c : Instr} (hc : c = .upstreamHotReset ∨ c = .upstreamLinkDown) (s : State) :
    exec c s = .next s.linkReset := by
  rcases hc with rfl | rfl <;> exact event_next_of_attn_zero (f := State.linkReset) rfl rfl

theorem State.commandedReset_of_none_withheld (h : s.withheld = none) : s.commandedReset = s.hierarchyReset := by
  have hw : s.hierarchyReset.withheld.isSome = false := by
    show s.withheld.isSome = false
    rw [h]
    rfl
  simp only [State.commandedReset, hw, Bool.false_eq_true, if_false]

/-- R152, R165: the commanded form where no request waits in the link for a slot. -/
theorem exec_hierarchyReset_of_none_withheld (h : s.withheld = none) :
    exec (.hierarchyReset false) s = .next s.hierarchyReset ∧
      exec (.hierarchyReset true) s = .next s.applyDevice.hierarchyReset :=
  ⟨event_next_of_attn_zero (f := fun s => s.deviceControl 2) (State.commandedReset_of_none_withheld h) rfl,
    event_next_of_attn_zero (f := fun s => s.deviceControl 3)
      (State.commandedReset_of_none_withheld (s := s.applyDevice) h) rfl⟩

/-- Settles O4: each form leaves a state that differs from `State.hierarchyReset` outside the slots alone. -/
theorem hierarchyResetOfSlots : Obligations.HierarchyResetOfSlots := by
  intro s c hc
  have hform : ∃ t, exec c s = .next t ∧ IsHierarchyReset s t := by
    rcases hc with hc | hc | ⟨hw, rfl | rfl⟩
    · exact ⟨_, exec_linkForm (.inl hc) s, rfl⟩
    · exact ⟨_, exec_linkForm (.inr hc) s, rfl⟩
    · refine ⟨_, (exec_hierarchyReset_of_none_withheld hw).1, ?_⟩
      rw [IsHierarchyReset, ← hw]
      rfl
    · refine ⟨_, (exec_hierarchyReset_of_none_withheld hw).2, ?_⟩
      rw [IsHierarchyReset, ← hw]
      rfl
  obtain ⟨t, hrun, ht⟩ := hform
  refine ⟨t, hrun, ?_⟩
  rw [ht]
  refine ⟨rfl, rfl, rfl, rfl, rfl, rfl, rfl, rfl, rfl, rfl, fun i => ?_⟩
  dsimp only
  rw [s.hierarchyReset_slot, s.hierarchyReset_queue]
  exact ⟨rfl, rfl, Slot.hierarchyReset_ort _ _, rfl, rfl, rfl, rfl, rfl, Slot.hierarchyReset_rmap _ _,
    Slot.hierarchyReset_port _ _, Slot.hierarchyReset_ou _ _, rfl, rfl, rfl, rfl, rfl, rfl, rfl, rfl⟩

/-- A hierarchy reset leaves no slot ACTIVE (R63). -/
theorem State.hierarchyReset_not_active (s : State) (i : SlotId) : (s.hierarchyReset.slots[i]).cu.st ≠ .active := by
  rw [s.hierarchyReset_slot]
  show (if (s.slots[i]).cu.st = .empty then SlotState.empty else .offline) ≠ .active
  split <;> decide

/-- R7: the routing rests on the settings in force and the BAR, so that a hierarchy reset by command keeps it. -/
theorem State.target_hierarchyReset (s : State) (q : HostRequest) : s.hierarchyReset.target q = s.target q := by
  have hforce : ∀ k : SlotId, (s.hierarchyReset.slots[k]).inForce = (s.slots[k]).inForce := fun k => by
    rw [s.hierarchyReset_slot]
    rfl
  have hw : ∀ a, s.hierarchyReset.windowSlot a = s.windowSlot a := fun a => by
    simp only [State.windowSlot, hforce]
  have hb : ∀ b, s.hierarchyReset.busSlot b = s.busSlot b := fun b => by
    simp only [State.busSlot, hforce]
  have hmem : ∀ a, s.hierarchyReset.memTarget a = s.memTarget a := fun a => by
    simp only [State.memTarget, hw]
    rfl
  have hcfg : ∀ r, s.hierarchyReset.cfgTarget r = s.cfgTarget r := fun r => by
    simp only [State.cfgTarget, hb]
  match q with
  | .known (.memRead r) => exact hmem r.address
  | .known (.cfgRead r) => exact hcfg r
  | .known (.cfgWrite r d) => exact hcfg r
  | .unrecognised _ _ => rfl

/-- R23: the state in which the first request has been taken out of the link, the credits being granted. -/
def State.linkTaken (s : State) (rest : List HostRequest) : State := { s with hostQueue := rest, withheld := none }

theorem State.retakeFirst_of_cons {q : HostRequest} {rest : List HostRequest} (h : s.hostQueue = q :: rest) :
    s.retakeFirst = (s.linkTaken rest).decide q := by
  simp only [State.retakeFirst, h]
  rfl

/-- R42, R165: the commanded form decides the first request in the link anew, which finds its slot out of ACTIVE. -/
theorem State.commandedReset_of_withheld {w : SlotId} {q : NonPosted} {rest : List HostRequest}
    (hw : s.withheld = some w) (hq : s.hostQueue = .known q :: rest) (ht : s.target (.known q) = .slot i) :
    s.commandedReset = (s.hierarchyReset.linkTaken rest).sendStandIns i
      (newStandIns (s.slots[i]).inForce.standinMode (s.slots[i]).inForce.busFirst q) := by
  have hheld : s.hierarchyReset.withheld.isSome = true := by
    show s.withheld.isSome = true
    rw [hw]
    rfl
  have htarget : (s.hierarchyReset.linkTaken rest).target (.known q) = .slot i :=
    (s.target_hierarchyReset (.known q)).trans ht
  have hst : ((s.hierarchyReset.linkTaken rest).slots[i]).cu.st ≠ .active := s.hierarchyReset_not_active i
  have hforce : ((s.hierarchyReset.linkTaken rest).slots[i]).inForce = (s.slots[i]).inForce := by
    show (s.hierarchyReset.slots[i]).inForce = _
    rw [s.hierarchyReset_slot]
    rfl
  simp only [State.commandedReset, hheld, if_true]
  rw [State.retakeFirst_of_cons (s := s.hierarchyReset) hq, State.decide_of_slot htarget,
    State.slotRequest_of_not_active hst, hforce]

/-- Settles O5: the link forms lose the configuration space and the link; the commanded form keeps both, applies the Device
Settings first where it is told to, and decides the first request that waits for a slot. -/
theorem resetForms : Obligations.ResetForms := by
  intro s
  refine ⟨fun c hc => ?link, fun hw => ?alone, fun hw => ?applied, fun w i q rest hw hq ht => ?waiting⟩
  case link => exact ⟨_, exec_linkForm hc s, rfl, rfl, rfl, rfl, rfl⟩
  case alone => exact ⟨_, (exec_hierarchyReset_of_none_withheld hw).1, rfl, rfl, rfl, rfl⟩
  case applied =>
    exact ⟨_, s.applyDevice, (exec_hierarchyReset_of_none_withheld hw).2,
      event_next_of_kept (f := fun s => s.deviceControl 1) rfl rfl rfl, rfl, rfl, rfl, rfl⟩
  case waiting =>
    exact ⟨_, event_next_of_attn_zero (f := fun s => s.deviceControl 2) (State.commandedReset_of_withheld hw hq ht) rfl,
      rfl, rfl, rfl⟩

/-! ### Late completions (R28, R33) -/

/-- R33: the late completions that slot `j` has counted. -/
def State.lateAt (s : State) (j : SlotId) : Dword := (s.slots[j]).ctr.lateCompletions

/-- What the decision of a host request makes of a slot is no count of late completions. -/
theorem State.lateAt_decide (s : State) (q : HostRequest) (j : SlotId) : (s.decide q).lateAt j = s.lateAt j := by
  have hslot : ∀ (i : SlotId) (n : NonPosted), (s.slotRequest i n).lateAt j = s.lateAt j := by
    intro i n
    have hsame : ∀ f : Slot → Slot, (f s.slots[i]).ctr.lateCompletions = (s.slots[i]).ctr.lateCompletions →
        (s.onSlot i f).lateAt j = s.lateAt j := fun f hf =>
      State.onSlot_slots_field s (fun sl => sl.ctr.lateCompletions) i j f hf
    have hcounted : ∀ cs, (s.sendStandIns i cs).lateAt j = (s.countStandins i cs.length).lateAt j := fun _ => rfl
    unfold State.slotRequest State.takeHostRequest
    dsimp only
    split
    · split
      · exact hsame _ rfl
      · split
        · exact hsame _ rfl
        · rfl
    · exact (hcounted _).trans (hsame _ rfl)
  unfold State.decide
  split
  · rfl
  · next n _ => cases n <;> rfl
  · exact hslot _ _
  · rfl

theorem State.lateAt_commandedReset (s : State) (j : SlotId) : s.commandedReset.lateAt j = s.lateAt j := by
  have hreset : s.hierarchyReset.lateAt j = s.lateAt j := by
    unfold State.lateAt
    rw [s.hierarchyReset_slot]
    rfl
  unfold State.commandedReset
  dsimp only
  split
  · unfold State.retakeFirst
    split
    · exact hreset
    · exact (State.lateAt_decide _ _ j).trans hreset
  · exact hreset

/-- R33: every form of the hierarchy reset keeps late_completions. -/
theorem exec_reset_lateAt (s : State) (j : SlotId) {c : Instr} (hc : c = .upstreamHotReset ∨ c = .upstreamLinkDown ∨
    c = .hierarchyReset false ∨ c = .hierarchyReset true) : ∃ t, exec c s = .next t ∧ t.lateAt j = s.lateAt j := by
  have hlink : s.linkReset.lateAt j = s.lateAt j := by
    show (s.hierarchyReset.slots[j]).ctr.lateCompletions = _
    rw [s.hierarchyReset_slot]
    rfl
  rcases hc with hc | hc | rfl | rfl
  · exact ⟨_, exec_linkForm (.inl hc) s, hlink⟩
  · exact ⟨_, exec_linkForm (.inr hc) s, hlink⟩
  · exact ⟨_, event_eq (fun s => s.deviceControl 2) s, s.lateAt_commandedReset j⟩
  · exact ⟨_, event_eq (fun s => s.deviceControl 3) s, s.applyDevice.lateAt_commandedReset j⟩

/-- R28, R33: a completion under the tag of no OPEN entry is counted as late. -/
theorem State.cardCompletion_of_late {c : Completion}
    (h : ∀ k : Fin 32, ((s.slots[i]).trk.ort[k]).body ≠ none → c.tag ≠ downstreamTag ((s.slots[i]).trk.ort[k]).gen k) :
    s.cardCompletion i c = s.countLate i := by
  unfold State.cardCompletion
  dsimp only
  split
  · next b hb => exact if_neg (h _ (by rw [hb]; exact nofun))
  · rfl

theorem State.countLate_eq (s : State) (i : SlotId) :
    s.countLate i = s.onSlot i fun sl => { sl with ctr := { sl.ctr with
      lateCompletions := if sl.ctr.lateCompletions = 4294967295 then sl.ctr.lateCompletions
        else sl.ctr.lateCompletions + 1 } } := rfl

/-- Settles O32: an unmatched completion is counted and does nothing else; of the resets only the power-on reset touches the
count. -/
theorem lateCompletion : Obligations.LateCompletion := by
  intro i c s sl
  refine ⟨fun h => ?late, ⟨s.powerOn, exec_powerOnReset s, ?powerOn⟩, fun c' hc => exec_reset_lateAt s i hc⟩
  case late =>
    exact event_next_of_onSlot (f := fun s => s.cardCompletion i c) s i
      ((State.cardCompletion_of_late h).trans (s.countLate_eq i))
  case powerOn =>
    rw [s.powerOn_slot]
    rfl

end

end Sys2Proof.Machine

/-! PROOF. Host requests that wait: in the Hold Queue, and in the upstream link until they are decided anew (R21 to R23). -/

namespace Sys2Proof.Machine

open Sys2Proof

section
variable {s : State} {i : SlotId} {q : NonPosted}

/-- R22: the item that a host request becomes when it is held. -/
def heldItem (s : State) (sl : Slot) (q : NonPosted) : HoldItem :=
  { body := requestBody s sl q, request := formForCard sl.inForce.busFirst q }

/-- R21, R22: a request that finds the Hold Queue in use or no entry FREE is held where there is room. -/
theorem State.takeHostRequest_of_room (hw : (s.slots[i]).trk.hold ≠ [] ∨ ∀ k : Fin 32, ((s.slots[i]).trk.ort[k]).body ≠ none)
    (hroom : (s.slots[i]).trk.hold.length < 8) :
    s.takeHostRequest i q = s.onSlot i fun sl =>
      { sl with trk := { sl.trk with hold := sl.trk.hold ++ [heldItem s s.slots[i] q] } } := by
  unfold State.takeHostRequest
  dsimp only
  split
  · next k hh hk =>
    exact absurd ((lowestFree_eq_some _ k).mp hk).1 ((hw.resolve_left fun hne => hne hh) k)
  · rw [if_pos hroom, hostBody_eq]
    rfl

/-- R23: with every entry OPEN and 8 items held the request is left in the link. -/
theorem State.takeHostRequest_of_full (hfull : ∀ k : Fin 32, ((s.slots[i]).trk.ort[k]).body ≠ none)
    (hlen : (s.slots[i]).trk.hold.length = 8) : s.takeHostRequest i q = s.leaveInLink i (.known q) := by
  unfold State.takeHostRequest
  dsimp only
  split
  · next k hh hk => exact absurd ((lowestFree_eq_some _ k).mp hk).1 (hfull k)
  · exact if_neg (by omega)

theorem State.decide_of_active (ht : s.target (.known q) = .slot i) (hst : (s.slots[i]).cu.st = .active) :
    s.decide (.known q) = s.takeHostRequest i q := by
  rw [State.decide_of_slot ht, State.slotRequest_of_active hst]

/-- R23: while a request waits in the link every other waits behind it. -/
theorem State.arrive_of_waiting {q : HostRequest} (h : s.hostQueue ≠ []) :
    s.arrive q = { s with hostQueue := s.hostQueue ++ [q] } := by
  simp [State.arrive, h]

/-- Settles O23: the request is held, left in the link, or queued behind one that waits there. -/
theorem hostRequestWaits : Obligations.HostRequestWaits := by
  intro i q rid tag s sl full
  refine ⟨fun hq ht hst hw hroom => ?held, fun hq ht hst hfull hlen => ?left, fun hq => ?behind, fun hq => ?other⟩
  case held =>
    rw [exec_hostCommand]
    exact event_next_of_onSlot (f := fun s => s.arrive (.known q)) s i
      (by rw [State.arrive_of_empty hq, State.decide_of_active ht hst, State.takeHostRequest_of_room hw hroom])
  case left =>
    rw [exec_hostCommand]
    refine event_next_of_kept (f := fun s => s.arrive (.known q)) ?_ rfl rfl
    rw [State.arrive_of_empty hq, State.decide_of_active ht hst, State.takeHostRequest_of_full hfull hlen,
      State.leaveInLink, hq]
  case behind =>
    rw [exec_hostCommand]
    exact event_next_of_kept (f := fun s => s.arrive (.known q)) (State.arrive_of_waiting hq) rfl rfl
  case other =>
    exact event_next_of_kept (f := fun s => s.arrive (.unrecognised rid tag)) (State.arrive_of_waiting hq) rfl rfl

/-! ### The request that waits first (R23) -/

theorem State.decide_attn (s : State) (q : HostRequest) :
    (s.decide q).attn = s.attn ∧ (s.decide q).attnEnable = s.attnEnable := by
  have hslot : ∀ (i : SlotId) (n : NonPosted),
      (s.slotRequest i n).attn = s.attn ∧ (s.slotRequest i n).attnEnable = s.attnEnable := by
    intro i n
    unfold State.slotRequest State.takeHostRequest
    dsimp only
    split
    · split
      · exact ⟨rfl, rfl⟩
      · split <;> exact ⟨rfl, rfl⟩
    · exact ⟨rfl, rfl⟩
  unfold State.decide
  split
  · exact ⟨rfl, rfl⟩
  · next n _ => cases n <;> exact ⟨rfl, rfl⟩
  · exact hslot _ _
  · exact ⟨rfl, rfl⟩

/-- The state `t` with further requests in the link behind those that it has there. -/
def State.withBehind (t : State) (rest : List HostRequest) : State := { t with hostQueue := t.hostQueue ++ rest }

/-- R23: a request that a slot's Tracker takes, or leaves in the link, does not look at those behind it. -/
theorem State.takeHostRequest_linkTaken (s : State) (i : SlotId) (n : NonPosted) (rest : List HostRequest) :
    (s.linkTaken rest).takeHostRequest i n = ((s.linkTaken []).takeHostRequest i n).withBehind rest := by
  have hslots : ∀ l, (s.linkTaken l).slots = s.slots := fun _ => rfl
  simp only [State.takeHostRequest, hslots]
  generalize (s.slots[i]).trk.hold = hold
  generalize (s.slots[i]).trk.lowestFree = free
  match hold, free with
  | [], some k => rfl
  | [], none => rfl
  | item :: items, free =>
    dsimp only
    by_cases hroom : (item :: items).length < 8
    · rw [if_pos hroom, if_pos hroom]
      rfl
    · rw [if_neg hroom, if_neg hroom]
      rfl

theorem State.slotRequest_linkTaken (s : State) (i : SlotId) (n : NonPosted) (rest : List HostRequest) :
    (s.linkTaken rest).slotRequest i n = ((s.linkTaken []).slotRequest i n).withBehind rest := by
  by_cases hst : (s.slots[i]).cu.st = .active
  · rw [State.slotRequest_of_active (s := s.linkTaken rest) hst, State.slotRequest_of_active (s := s.linkTaken []) hst,
      State.takeHostRequest_linkTaken]
  · rw [State.slotRequest_of_not_active (s := s.linkTaken rest) hst,
      State.slotRequest_of_not_active (s := s.linkTaken []) hst]
    rfl

/-- R23: the decision of a request does not look at those behind it in the link, which stay. -/
theorem State.decide_linkTaken (s : State) (q : HostRequest) (rest : List HostRequest) :
    (s.linkTaken rest).decide q = ((s.linkTaken []).decide q).withBehind rest := by
  have htarget : ∀ l, (s.linkTaken l).target q = s.target q := fun _ => rfl
  simp only [State.decide, htarget]
  split
  · rfl
  · next n _ => cases n <;> rfl
  · exact s.slotRequest_linkTaken _ _ rest
  · rfl

/-- R23: what WAITING_HOST_REQUEST_RETAKEN does with a request that waits first. -/
theorem exec_retaken_of_cons (q : HostRequest) (rest : List HostRequest) (s : State) :
    exec .waitingHostRequestRetaken { s with hostQueue := q :: rest } = .next ((s.linkTaken rest).decide q) :=
  event_next_of_kept (f := State.retakeFirst) (State.retakeFirst_of_cons (s := { s with hostQueue := q :: rest }) rfl)
    ((s.linkTaken rest).decide_attn q).1 ((s.linkTaken rest).decide_attn q).2

/-- R23: what a request does that arrives alone. -/
theorem event_arrive_alone (q : HostRequest) (s : State) :
    event (fun s => s.arrive q) (s.linkTaken []) = .next ((s.linkTaken []).decide q) :=
  event_next_of_kept (State.arrive_of_empty rfl) ((s.linkTaken []).decide_attn q).1 ((s.linkTaken []).decide_attn q).2

/-- An event that leaves ATTN changes, in the terms of claims, one slot and what has been sent. -/
theorem slotAfter_of_sent (s : State) (i : SlotId) (sl : Slot) (ps : List HostPacket) :
    slotAfter s i sl s.attn 0 ps =
      { s with slots := s.slots.set i sl, wires := { s.wires with upstream := s.wires.upstream ++ ps } } := by
  unfold slotAfter
  simp only [BitVec.add_zero]
  exact withInterrupt_of_kept rfl rfl

/-- Settles O31: the request is decided as if it arrived alone, by the same rules, and those behind it stay. -/
theorem waitingRequestRetaken : Obligations.WaitingRequestRetaken := by
  intro i q rest rid tag s sl full run alone
  have hrun : run = .next ((s.linkTaken rest).decide (.known q)) := exec_retaken_of_cons (.known q) rest s
  refine ⟨?empty, ⟨(s.linkTaken []).decide (.known q), ?arrives, ?known⟩, 
      ⟨(s.linkTaken []).decide (.unrecognised rid tag), ?alone, ?unrecognised⟩,
    fun ht hst hw hroom => ?held, fun ht hst hfull hlen => ?left, fun ht hst => ?answered⟩
  case empty => exact event_next_of_kept (f := State.retakeFirst) rfl rfl rfl
  case arrives =>
    rw [exec_hostCommand]
    exact event_arrive_alone (.known q) s
  case known =>
    rw [hrun, State.decide_linkTaken]
    rfl
  case alone => exact event_arrive_alone (.unrecognised rid tag) s
  case unrecognised => exact exec_retaken_of_cons (.unrecognised rid tag) rest s
  case held =>
    rw [hrun, State.decide_of_active (s := s.linkTaken rest) ht hst,
      State.takeHostRequest_of_room (s := s.linkTaken rest) hw hroom]
    rfl
  case left =>
    rw [hrun, State.decide_of_active (s := s.linkTaken rest) ht hst,
      State.takeHostRequest_of_full (s := s.linkTaken rest) hfull hlen]
    rfl
  case answered =>
    rw [hrun, State.decide_of_slot (s := s.linkTaken rest) ht, State.slotRequest_of_not_active (s := s.linkTaken rest) hst]
    dsimp only
    rw [slotAfter_of_sent]
    rfl

end

end Sys2Proof.Machine

/-! PROOF. What an event has done so far: one rule for each operation on the state, in the terms in which claims give the state
after an event. -/

namespace Sys2Proof.Machine

open Sys2Proof

/-- What an event has done so far at one slot: the slot as it is now, ATTN, the number of incidents filed, the packets sent,
the current plan, the Recovery Queue and the count of free bytes. -/
@[ext]
structure Effect where
  slot : Slot
  attn : BitVec 24
  filed : Nat
  sent : List HostPacket
  plan : Option Plan
  queue : Vector (Option QueueEntry) 8
  free : Nat

/-- Nothing has been done yet. -/
def Effect.none (s : State) (i : SlotId) : Effect :=
  { slot := s.slots[i], attn := s.attn, filed := 0, sent := [], plan := s.plan, queue := s.queue, free := s.freeIndex }

/-- The state once an event from `s` has done `e` at slot `i`. -/
def State.did (s : State) (i : SlotId) (e : Effect) : State :=
  { s with
    slots := s.slots.set i e.slot, attn := e.attn, incidentSerial := s.incidentSerial + BitVec.ofNat 32 e.filed,
    wires := { s.wires with upstream := s.wires.upstream ++ e.sent }, plan := e.plan, queue := e.queue,
    freeIndex := e.free }

section
variable (s : State) (i : SlotId) (e : Effect)

theorem State.did_none : s.did i (Effect.none s i) = s := by
  simp [State.did, Effect.none]

/-- The state before an event that changes one slot, in the terms of effects. -/
theorem State.onSlot_eq_did (f : Slot → Slot) :
    s.onSlot i f = s.did i { Effect.none s i with slot := f s.slots[i] } := by
  simp [State.did, Effect.none, State.onSlot]

/-- The outcome of an event that has done `e`, in the terms of claims. -/
theorem event_did {s : State} {i : SlotId} {e : Effect} {f : State → State} (h : f s = s.did i e) :
    event f s = .next { slotAfter s i e.slot e.attn e.filed e.sent with
      plan := e.plan, queue := e.queue, freeIndex := e.free } := by
  rw [event_next h]
  rfl

theorem State.did_slot : (s.did i e).slots[i] = e.slot := by
  simp [State.did]

theorem State.did_slot_of_ne {j : SlotId} (h : j ≠ i) : (s.did i e).slots[j] = s.slots[j] := by
  simp only [State.did, getElem_set_fin, if_neg h]

/-! ### The shared operations -/

theorem State.did_onSlot (f : Slot → Slot) : (s.did i e).onSlot i f = s.did i { e with slot := f e.slot } := by
  simp [State.did, State.onSlot]

theorem State.did_onCu (f : Containment → Containment) :
    (s.did i e).onCu i f = s.did i { e with slot := { e.slot with cu := f e.slot.cu } } :=
  s.did_onSlot i e _

theorem State.did_onTracker (f : Tracker → Tracker) :
    (s.did i e).onTracker i f = s.did i { e with slot := { e.slot with trk := f e.slot.trk } } :=
  s.did_onSlot i e _

theorem State.did_onCounters (f : Counters → Counters) :
    (s.did i e).onCounters i f = s.did i { e with slot := { e.slot with ctr := f e.slot.ctr } } :=
  s.did_onSlot i e _

theorem State.did_setSlotState (st : SlotState) :
    (s.did i e).setSlotState i st = s.did i { e with slot := { e.slot with cu := { e.slot.cu with st := st } } } :=
  s.did_onCu i e _

theorem State.did_setAttempt (k : Nat) :
    (s.did i e).setAttempt i k = s.did i { e with slot := { e.slot with attempt := k } } :=
  s.did_onSlot i e _

theorem State.did_setCapture (c : Option Capture) :
    (s.did i e).setCapture i c = s.did i { e with slot := { e.slot with capture := c } } :=
  s.did_onSlot i e _

theorem State.did_becomeActive : (s.did i e).becomeActive i = s.did i { e with slot := { e.slot with
    cu := { e.slot.cu with st := .active, period := e.slot.cu.period + 1 },
    trk := { e.slot.trk with answered := 0 } } } := by
  unfold State.becomeActive
  rw [State.did_onCu, State.did_onTracker]

theorem State.did_addTally (completions requests : Nat) :
    (s.did i e).addTally i completions requests = s.did i { e with slot := { e.slot with cu := { e.slot.cu with
      tally := { e.slot.cu.tally with
        completions := e.slot.cu.tally.completions + completions,
        requests := e.slot.cu.tally.requests + requests } } } } :=
  s.did_onCu i e _

theorem State.did_reportTrigger (cause : FenceCause) :
    (s.did i e).reportTrigger i cause = s.did i { e with slot := { e.slot with cu := { e.slot.cu with
      triggers := e.slot.cu.triggers ++ [{ cause := cause, period := e.slot.cu.period }] } } } :=
  s.did_onCu i e _

theorem State.did_countStandins (n : Nat) :
    (s.did i e).countStandins i n = s.did i { e with slot := { e.slot with ctr := { e.slot.ctr with
      standinsIssued := satAdd e.slot.ctr.standinsIssued n } } } :=
  s.did_onCounters i e _

theorem State.did_countTimeout :
    (s.did i e).countTimeout i = s.did i { e with slot := { e.slot with ctr := { e.slot.ctr with
      timeouts := if e.slot.ctr.timeouts = 0xFFFFFFFF then e.slot.ctr.timeouts else e.slot.ctr.timeouts + 1 } } } :=
  s.did_onCounters i e _

theorem State.did_countOverrun :
    (s.did i e).countOverrun i = s.did i { e with slot := { e.slot with ctr := { e.slot.ctr with
      overruns := if e.slot.ctr.overruns = 0xFFFFFFFF then e.slot.ctr.overruns else e.slot.ctr.overruns + 1 } } } :=
  s.did_onCounters i e _

theorem State.did_raise (a : Attention) :
    (s.did i e).raise i a = s.did i { e with attn := e.attn ||| attentionMask i a } := rfl

theorem State.did_setPlan (p : Option Plan) : (s.did i e).setPlan p = s.did i { e with plan := p } := rfl

theorem State.did_setQueue (q : Option QueueEntry) :
    (s.did i e).setQueue i q = s.did i { e with queue := e.queue.set i q } := rfl

theorem State.did_emitCompletions (cs : List Completion) :
    (s.did i e).emitCompletions cs = s.did i { e with sent := e.sent ++ cs.map .completion } := by
  simp [State.did, State.emitCompletions]

/-- R85: stand-ins are sent and counted. -/
theorem State.did_sendStandIns (cs : List Completion) :
    (s.did i e).sendStandIns i cs = s.did i { e with
      slot := { e.slot with ctr := { e.slot.ctr with
        standinsIssued := satAdd e.slot.ctr.standinsIssued cs.length } },
      sent := e.sent ++ cs.map .completion } := by
  unfold State.sendStandIns
  rw [State.did_emitCompletions, State.did_countStandins]

/-- R107: the assert command. -/
theorem State.did_assertLine : (s.did i e).assertLine i = s.did i { e with slot := e.slot.asserted } := by
  rw [State.assertLine_eq, State.did_onSlot]

variable {s i e}

/-- R170, R171: the filing of an incident at a slot of phase `phase`. -/
theorem State.did_fileIncident {phase : Phase} (hphase : (s.did i e).phaseOf i = phase) (kind : IncidentKind)
    (reason : Reason) (a b c : Option Dword) :
    (s.did i e).fileIncident i kind reason a b c = s.did i { e with
      slot := { e.slot with
        inc := e.slot.inc.file (incidentAt s (e.filed + 1) kind e.slot.cu.st phase e.slot.port.epoch e.slot.attempt reason
          a b c) },
      attn := e.attn ||| attentionMask i .incident, filed := e.filed + 1 } := by
  have hserial : (s.did i e).incidentSerial + 1 = s.incidentSerial + BitVec.ofNat 32 (e.filed + 1) := by
    rw [BitVec.ofNat_add, ← BitVec.add_assoc]
    rfl
  have hbump : ({ s.did i e with incidentSerial := (s.did i e).incidentSerial + 1 } : State) =
      s.did i { e with filed := e.filed + 1 } := by
    rw [hserial]
    rfl
  have hrecord : (s.did i e).incidentRecord i kind reason a b c = incidentAt s (e.filed + 1) kind e.slot.cu.st phase
      e.slot.port.epoch e.slot.attempt reason a b c := by
    unfold State.incidentRecord incidentAt
    rw [hphase, hserial, State.did_slot]
    rfl
  rw [State.fileIncident_eq, hbump, hrecord, State.did_onSlot, State.did_raise]

/-- R111: a slot that is not RECOVERING has no phase. -/
theorem State.did_phaseOf (h : e.slot.cu.st ≠ .recovering) : (s.did i e).phaseOf i = .none :=
  State.phaseOf_of_not_recovering _ i (by rw [State.did_slot]; exact h)

variable (s i e)

/-- R156: the end of the order in progress if it has a code. -/
theorem State.did_endOrderOf (c : OrderCode) (outcome : OrderOutcome) (reason : Reason) (d1 d2 d3 : Dword) :
    (s.did i e).endOrderOf i c outcome reason d1 d2 d3 = s.did i { e with
      slot := { e.slot with ou := e.slot.ouEnding s.now c.code outcome reason d1 d2 d3 },
      attn := e.attn ||| doneMask i e.slot c.code } := by
  rw [State.endOrderOf_eq, State.did_slot]
  simp [State.did]

end

end Sys2Proof.Machine

/-! PROOF. The freeing, the opening and the settling of entries, and the abrupt close, as effects (R25 to R27, R39, R40,
R75). -/

namespace Sys2Proof.Machine

open Sys2Proof

/-! ### Counts -/

theorem satAdd_zero {w : Nat} (c : BitVec w) : satAdd c 0 = c := by
  have hlt := c.isLt
  unfold satAdd
  rw [Nat.add_zero, min_eq_left (by omega), BitVec.ofNat_toNat, BitVec.setWidth_eq]

/-- Rises of a saturating count add up. -/
theorem satAdd_satAdd {w : Nat} (c : BitVec w) (m n : Nat) : satAdd (satAdd c m) n = satAdd c (m + n) := by
  have hpos : 0 < 2 ^ w := Nat.two_pow_pos w
  unfold satAdd
  rw [BitVec.toNat_ofNat, Nat.mod_eq_of_lt (by omega)]
  congr 1
  omega

/-! ### Entries -/

section
variable {s : State} {i : SlotId} {e : Effect}

theorem State.did_freed (k : Fin 32) : ((s.did i e).onTracker i fun t => t.freed k) =
    s.did i { e with slot := { e.slot with trk := e.slot.trk.withFreed k } } := by
  rw [State.did_onTracker, freed_eq_withFreed]

/-- R26: an entry that is freed with nothing to hand it on to, or out of ACTIVE. -/
theorem State.did_freeEntry {k : Fin 32}
    (h : e.slot.cu.st = .active → e.slot.trk.waiting = none ∧ e.slot.trk.hold = []) :
    (s.did i e).freeEntry i k = s.did i { e with slot := { e.slot with trk := e.slot.trk.withFreed k } } := by
  unfold State.freeEntry
  dsimp only
  rw [State.did_freed, State.did_slot]
  split
  · next hst =>
    obtain ⟨hw, hh⟩ := h hst
    have hw' : (e.slot.trk.withFreed k).waiting = none := hw
    have hh' : (e.slot.trk.withFreed k).hold = [] := hh
    unfold State.handOn
    dsimp only
    rw [State.did_slot]
    simp only [hw', hh']
  · rfl

/-- R19, R20, R56: the opening of an entry. -/
theorem State.did_openEntry (k : Fin 32) (b : OrtBody) (q : NonPosted) :
    (s.did i e).openEntry i k b q = s.did i { e with
      slot := e.slot.withOpened s.now k b (retag s.mgmt.requesterId (downstreamTag (e.slot.trk.ort[k]).gen k) q) } := by
  rw [openEntry_eq, State.did_onSlot]
  rfl

theorem controllerOpens_did (sl : Slot) (c : ControllerRequest) :
    controllerOpens (s.did i e) sl c = controllerOpens s sl c := by
  obtain ⟨owner, offset, _ | ⟨data, enables⟩⟩ := c <;> rfl

theorem controllerSends_did (sl : Slot) (tag : BitVec 10) (c : ControllerRequest) :
    controllerSends (s.did i e) sl tag c = controllerSends s sl tag c := by
  obtain ⟨owner, offset, _ | ⟨data, enables⟩⟩ := c <;> rfl

/-- R24: the opening of an entry by a controller request. -/
theorem State.did_openController (k : Fin 32) (c : ControllerRequest) :
    (s.did i e).openController i k c = s.did i { e with
      slot := e.slot.withOpened s.now k (controllerOpens s e.slot c)
        (controllerSends s e.slot (downstreamTag (e.slot.trk.ort[k]).gen k) c) } := by
  rw [State.openController_eq, State.did_onSlot]
  simp only [controllerOpens_did, controllerSends_did]
  rfl

/-- R24: a controller request that finds an entry FREE. -/
theorem State.did_issueController {k : Fin 32} (c : ControllerRequest) (hk : LowestFree e.slot k) :
    (s.did i e).issueController i c = s.did i { e with
      slot := e.slot.withOpened s.now k (controllerOpens s e.slot c)
        (controllerSends s e.slot (downstreamTag (e.slot.trk.ort[k]).gen k) c) } := by
  rw [State.issueController_of_free (by rw [State.did_slot]; exact hk), State.did_openController]

/-! ### The settling of every entry (R40) -/

/-- R40: the Age List is the list of the OPEN entries, without repetition. -/
structure Slot.AgeListed (sl : Slot) : Prop where
  nodup : sl.trk.age.Nodup
  lists : ∀ k : Fin 32, k ∈ sl.trk.age ↔ (sl.trk.ort[k]).body ≠ none

theorem Slot.Quiet.ageListed {sl : Slot} (h : sl.Quiet) : sl.AgeListed := by
  obtain ⟨hfree, hage, -, -⟩ := h
  exact ⟨hage ▸ List.nodup_nil, fun k => by
    simp only [hage, List.not_mem_nil, hfree k, ne_eq, not_true_eq_false]⟩

/-- R40: the number of OPEN host entries of a slot. -/
def Slot.owedRequests (sl : Slot) : Nat :=
  sl.trk.age.countP fun k => (sl.trk.ort[k]).body.any (·.origin.isUpstream)

/-- R40: a slot in which every OPEN entry has been settled. -/
def Slot.emptied (sl : Slot) : Slot :=
  { sl with
    trk := { sl.trk with ort := sl.ortFreed, age := [], watch := if sl.trk.age = [] then sl.trk.watch else .idle },
    ctr := { sl.ctr with standinsIssued := satAdd sl.ctr.standinsIssued sl.owedStandIns.length } }

/-- R40: a slot in which the OPEN entry `k` has been settled. -/
def Slot.settledOne (sl : Slot) (k : Fin 32) (b : OrtBody) : Slot :=
  { sl with
    trk := sl.trk.withFreed k,
    ctr := { sl.ctr with
      standinsIssued := satAdd sl.ctr.standinsIssued (b.standIns sl.inForce.standinMode).length } }

/-- R40: the settling of one OPEN entry out of ACTIVE. -/
theorem State.settleEntry_did {k : Fin 32} {b : OrtBody} (hst : e.slot.cu.st ≠ .active)
    (hb : (e.slot.trk.ort[k]).body = some b) (m n : Nat) :
    State.settleEntry i { state := s.did i e, completions := m, requests := n } k =
      { state := s.did i { e with
          slot := e.slot.settledOne k b,
          sent := e.sent ++ (b.standIns e.slot.inForce.standinMode).map .completion },
        completions := m + (b.standIns e.slot.inForce.standinMode).length,
        requests := n + if b.origin.isUpstream then 1 else 0 } := by
  unfold State.settleEntry
  dsimp only
  rw [State.did_slot]
  simp only [hb]
  cases ho : b.origin with
  | controller o =>
    have hnone : b.standIns e.slot.inForce.standinMode = [] := by simp only [OrtBody.standIns, ho]
    rw [State.did_freeEntry fun h => absurd h hst]
    simp [Slot.settledOne, hnone, satAdd_zero, Origin.isUpstream]
  | upstream rid tag =>
    dsimp only
    rw [State.did_sendStandIns, State.did_freeEntry]
    · rfl
    · exact fun h => absurd h hst

section
variable {sl : Slot} {k : Fin 32} {rest : List (Fin 32)} {b : OrtBody}

theorem getElem_ortFreed (sl : Slot) (j : Fin 32) : sl.ortFreed[j] =
    if (sl.trk.ort[j]).body = none then sl.trk.ort[j] else { gen := (sl.trk.ort[j]).gen + 1, body := none } := by
  simp [Slot.ortFreed]

theorem Slot.settledOne_ort (sl : Slot) (k j : Fin 32) (b : OrtBody) : (sl.settledOne k b).trk.ort[j] =
    if j = k then { gen := (sl.trk.ort[k]).gen + 1, body := none } else sl.trk.ort[j] :=
  getElem_set_fin _ _ _ _

theorem Slot.settledOne_age (hage : sl.trk.age = k :: rest) : (sl.settledOne k b).trk.age = rest := by
  show sl.trk.age.erase k = rest
  rw [hage, List.erase_cons_head]

theorem Slot.AgeListed.not_mem_rest (h : sl.AgeListed) (hage : sl.trk.age = k :: rest) : k ∉ rest := by
  have hn := h.nodup
  rw [hage] at hn
  exact (List.nodup_cons.mp hn).1

theorem Slot.AgeListed.settledOne (h : sl.AgeListed) (hage : sl.trk.age = k :: rest) : (sl.settledOne k b).AgeListed := by
  have hn := h.nodup
  rw [hage] at hn
  constructor
  · rw [Slot.settledOne_age hage]
    exact (List.nodup_cons.mp hn).2
  · intro j
    have hj := h.lists j
    rw [hage, List.mem_cons] at hj
    rw [Slot.settledOne_age hage, Slot.settledOne_ort]
    split
    · next hjk => simp [hjk, h.not_mem_rest hage]
    · next hjk => simpa [hjk] using hj

theorem Slot.AgeListed.free_of_single (h : sl.AgeListed) (hage : sl.trk.age = [k]) {j : Fin 32} (hj : j ≠ k) :
    (sl.trk.ort[j]).body = none := by
  have hl := h.lists j
  rw [hage, List.mem_singleton] at hl
  exact Classical.not_not.mp fun hb => hj (hl.mpr hb)

/-- Where the Age List is empty, no entry is OPEN and nothing is settled. -/
theorem Slot.AgeListed.emptied_of_nil (h : sl.AgeListed) (hage : sl.trk.age = []) :
    sl.emptied = sl ∧ sl.owedStandIns = [] ∧ sl.owedRequests = 0 := by
  have hfree : ∀ j : Fin 32, (sl.trk.ort[j]).body = none := fun j => Classical.not_not.mp fun hb => by
    simpa [hage] using (h.lists j).mpr hb
  have hort : sl.ortFreed = sl.trk.ort := by
    apply Vector.ext
    intro j hj
    exact (getElem_ortFreed sl ⟨j, hj⟩).trans (if_pos (hfree ⟨j, hj⟩))
  have hnone : sl.owedStandIns = [] := by simp only [Slot.owedStandIns, hage, List.flatMap_nil]
  refine ⟨?_, hnone, by simp only [Slot.owedRequests, hage, List.countP_nil]⟩
  unfold Slot.emptied
  rw [hort, hnone, if_pos hage, List.length_nil, satAdd_zero, ← hage]

/-- Settling the oldest entry and then the others settles every entry. -/
theorem Slot.settledOne_emptied (h : sl.AgeListed) (hage : sl.trk.age = k :: rest)
    (hb : (sl.trk.ort[k]).body = some b) :
    (sl.settledOne k b).emptied = sl.emptied ∧
      sl.owedStandIns = b.standIns sl.inForce.standinMode ++ (sl.settledOne k b).owedStandIns ∧
      sl.owedRequests = (if b.origin.isUpstream then 1 else 0) + (sl.settledOne k b).owedRequests := by
  have hother : ∀ j ∈ rest, (sl.settledOne k b).trk.ort[j] = sl.trk.ort[j] := fun j hj => by
    rw [Slot.settledOne_ort, if_neg]
    rintro rfl
    exact h.not_mem_rest hage hj
  have hstandIns : sl.owedStandIns = b.standIns sl.inForce.standinMode ++ (sl.settledOne k b).owedStandIns := by
    unfold Slot.owedStandIns
    rw [Slot.settledOne_age hage, hage, List.flatMap_cons, hb]
    congr 1
    exact List.flatMap_congr fun j hj => by rw [hother j hj]; rfl
  have hrequests : sl.owedRequests = (if b.origin.isUpstream then 1 else 0) + (sl.settledOne k b).owedRequests := by
    unfold Slot.owedRequests
    rw [Slot.settledOne_age hage, hage, List.countP_cons, hb, Nat.add_comm]
    congr 1
    exact List.countP_congr fun j hj => by rw [hother j hj]
  have hort : (sl.settledOne k b).ortFreed = sl.ortFreed := by
    apply Vector.ext
    intro j hj
    have hl := getElem_ortFreed (sl.settledOne k b) ⟨j, hj⟩
    have hr := getElem_ortFreed sl ⟨j, hj⟩
    rw [Slot.settledOne_ort] at hl
    refine hl.trans (Eq.trans ?_ hr.symm)
    split
    · next hjk => simp only [hjk, hb, if_true, reduceCtorEq, if_false]
    · rfl
  have hwatch : (if rest = [] then (sl.trk.withFreed k).watch else Watch.idle) = .idle := by
    split
    · next hrest => exact if_pos fun j hj => h.free_of_single (hrest ▸ hage) hj
    · rfl
  refine ⟨?_, hstandIns, hrequests⟩
  have hcount : satAdd (sl.settledOne k b).ctr.standinsIssued (sl.settledOne k b).owedStandIns.length =
      satAdd sl.ctr.standinsIssued sl.owedStandIns.length := by
    rw [hstandIns, List.length_append, ← satAdd_satAdd]
    rfl
  unfold Slot.emptied
  rw [hort, hcount, Slot.settledOne_age hage, hage, if_neg (List.cons_ne_nil k rest)]
  show ({ sl with trk := _, ctr := _ } : Slot) = _
  simp only [Slot.settledOne, hwatch]
  rfl

end

/-- R40: the settling of every entry out of ACTIVE. -/
theorem State.closeAll_did (hst : e.slot.cu.st ≠ .active) (hl : e.slot.AgeListed) :
    (s.did i e).closeAll i =
      { state := s.did i { e with
          slot := { e.slot.emptied with trk := { e.slot.emptied.trk with waiting := none } },
          sent := e.sent ++ e.slot.owedStandIns.map .completion },
        completions := e.slot.owedStandIns.length, requests := e.slot.owedRequests } := by
  have hfold : ∀ (ks : List (Fin 32)) (e : Effect) (m n : Nat), e.slot.cu.st ≠ .active → e.slot.AgeListed →
      e.slot.trk.age = ks →
      ks.foldl (State.settleEntry i) { state := s.did i e, completions := m, requests := n } =
        { state := s.did i { e with
            slot := e.slot.emptied, sent := e.sent ++ e.slot.owedStandIns.map .completion },
          completions := m + e.slot.owedStandIns.length, requests := n + e.slot.owedRequests } := by
    intro ks
    induction ks with
    | nil =>
      intro e m n hst hl hage
      obtain ⟨hslot, hsent, hrequests⟩ := hl.emptied_of_nil hage
      simp [hslot, hsent, hrequests]
    | cons k ks ih =>
      intro e m n hst hl hage
      obtain ⟨b, hb⟩ := Option.ne_none_iff_exists'.mp ((hl.lists k).mp (hage ▸ List.mem_cons_self))
      obtain ⟨hslot, hsent, hrequests⟩ := Slot.settledOne_emptied hl hage hb
      rw [List.foldl_cons, State.settleEntry_did hst hb, ih]
      · dsimp only
        rw [hslot, hsent, hrequests]
        simp [Nat.add_assoc]
      · exact hst
      · exact hl.settledOne hage
      · exact Slot.settledOne_age hage
  unfold State.closeAll
  rw [State.did_slot, hfold _ e 0 0 hst hl rfl]
  dsimp only
  rw [State.did_onTracker]
  simp

end

end Sys2Proof.Machine

/-! PROOF. The abrupt close, the end of a plan's request, the retirement by order, and the grant, as effects (R25, R62, R75,
R77, R115). -/

namespace Sys2Proof.Machine

open Sys2Proof

/-! ### The parts of a slot -/

section
variable (sl : Slot)

/-- R107: an assert command changes the port and a counter of it. -/
theorem Slot.asserted_eq : sl.asserted = { sl with port := sl.asserted.port, ctr := sl.asserted.ctr } := by
  unfold Slot.asserted
  split <;> rfl

theorem Slot.asserted_cu : sl.asserted.cu = sl.cu := by rw [Slot.asserted_eq]
theorem Slot.asserted_trk : sl.asserted.trk = sl.trk := by rw [Slot.asserted_eq]
theorem Slot.asserted_ou : sl.asserted.ou = sl.ou := by rw [Slot.asserted_eq]
theorem Slot.asserted_inc : sl.asserted.inc = sl.inc := by rw [Slot.asserted_eq]
theorem Slot.asserted_attempt : sl.asserted.attempt = sl.attempt := by rw [Slot.asserted_eq]
theorem Slot.asserted_rmap : sl.asserted.rmap = sl.rmap := by rw [Slot.asserted_eq]

/-- What an assert command does to the port does not turn on the other blocks. -/
theorem Slot.asserted_of_blocks (cu : Containment) (trk : Tracker) (ou : OrderUnit) (inc : IncidentLogic) (k : Nat) :
    ({ sl with cu := cu, trk := trk, ou := ou, inc := inc, attempt := k } : Slot).asserted =
      { sl.asserted with cu := cu, trk := trk, ou := ou, inc := inc, attempt := k } := by
  unfold Slot.asserted
  dsimp only
  split <;> rfl

/-- R75: a slot after an abrupt close naming the state `st`. -/
def Slot.abruptlyClosed (st : SlotState) : Slot :=
  { sl with
    cu := { sl.cu with st := st, grace := none, followUp := .none },
    trk := { sl.trk with
      ort := sl.ortFreed, age := [], hold := [], waiting := none,
      watch := if sl.cu.st = .active ∨ sl.trk.age ≠ [] then .idle else sl.trk.watch },
    ctr := { sl.ctr with
      standinsIssued := satAdd sl.ctr.standinsIssued (sl.heldStandIns ++ sl.owedStandIns).length } }

variable {sl}

theorem Slot.Quiet.nothing_owed (h : sl.Quiet) : sl.heldStandIns = [] ∧ sl.owedStandIns = [] := by
  obtain ⟨-, hage, hhold, -⟩ := h
  simp only [Slot.heldStandIns, Slot.owedStandIns, hage, hhold, List.flatMap_nil, and_self]

/-- R75: an abrupt close of a slot out of ACTIVE that owes nothing. -/
theorem Slot.Quiet.abruptlyClosed (h : sl.Quiet) (hst : sl.cu.st ≠ .active) (st : SlotState) :
    sl.abruptlyClosed st = { sl with cu := { sl.cu with st := st, grace := none, followUp := .none } } := by
  obtain ⟨hheld, howed⟩ := h.nothing_owed
  obtain ⟨hfree, hage, hhold, hwaiting⟩ := h
  have hort : sl.ortFreed = sl.trk.ort := by
    apply Vector.ext
    intro j hj
    exact (getElem_ortFreed sl ⟨j, hj⟩).trans (if_pos (hfree ⟨j, hj⟩))
  unfold Slot.abruptlyClosed
  rw [hheld, howed, hort, if_neg (by simp only [hst, hage, ne_eq, not_true_eq_false, or_self, not_false_eq_true]),
    List.append_nil, List.length_nil, satAdd_zero, ← hage, ← hhold, ← hwaiting]

theorem PlanRequestEnded.quiet {t : Tracker} (h : PlanRequestEnded sl t) : ({ sl with trk := t } : Slot).Quiet := by
  obtain ⟨hhold, ⟨hq, rfl⟩ | ⟨k, b, -, -, hfree, hage, hw, rfl⟩ | ⟨c, hfree, hage, -, -, rfl⟩⟩ := h
  · exact hq
  · refine ⟨fun j => ?_, by simp [Tracker.withFreed, hage], hhold, hw⟩
    show ((sl.trk.withFreed k).ort[j]).body = none
    rw [show (sl.trk.withFreed k).ort[j] = _ from getElem_set_fin _ _ _ _]
    split
    · rfl
    · next hjk => exact hfree j hjk
  · exact ⟨hfree, hage, hhold, rfl⟩

theorem Slot.Quiet.noPlanRequest (h : sl.Quiet) : NoPlanRequest sl := by
  obtain ⟨hfree, -, -, hw⟩ := h
  exact ⟨fun k b hb => (by rw [hfree k] at hb; cases hb), fun c hc => by rw [hw] at hc; cases hc⟩

end

section
variable {s : State} {i : SlotId} {e : Effect}

/-! ### Leaving ACTIVE -/

/-- R23: a request in the link that waits for another slot is not decided anew. -/
theorem State.did_retakeFor (h : s.withheld ≠ some i) : (s.did i e).retakeFor i = s.did i e := if_neg h

/-- R62: the announcements of a slot in which nothing waits and no capture is in progress. -/
theorem State.did_announceLeave (hw : s.withheld ≠ some i) (hr : e.slot.port.waitingRead = none)
    (hc : e.slot.capture = none) : (s.did i e).announceLeave i =
      s.did i { e with slot := { e.slot with trk := { e.slot.trk with watch := .idle } } } := by
  unfold State.announceLeave
  rw [State.did_onTracker, State.did_retakeFor hw]
  unfold State.dropWaitingRead
  rw [State.did_slot, if_neg (by simp [hr])]
  unfold State.captureLeaves
  rw [State.did_slot]
  simp only [hc]

/-- R39: the draining of the Hold Queue. -/
theorem State.did_drainHold (h : s.withheld ≠ some i ∨ e.slot.trk.hold = []) : (s.did i e).drainHold i =
    { state := s.did i { e with
        slot := { e.slot with
          trk := { e.slot.trk with hold := [] },
          ctr := { e.slot.ctr with
            standinsIssued := satAdd e.slot.ctr.standinsIssued e.slot.heldStandIns.length } },
        sent := e.sent ++ e.slot.heldStandIns.map .completion },
      completions := e.slot.heldStandIns.length, requests := e.slot.trk.hold.length } := by
  unfold State.drainHold
  dsimp only
  rw [State.did_slot]
  by_cases hh : e.slot.trk.hold = []
  · have hnone : e.slot.heldStandIns = [] := by simp only [Slot.heldStandIns, hh, List.flatMap_nil]
    have hkeep : ({ e.slot.trk with hold := [] } : Tracker) = e.slot.trk := by rw [← hh]
    rw [if_pos (by simp [hh]), hnone, hkeep, hh, List.length_nil, satAdd_zero, List.map_nil, List.append_nil]
    rfl
  · rw [if_neg (by simp [hh]), State.did_sendStandIns, State.did_onTracker, State.did_retakeFor (h.resolve_right hh)]
    rfl

/-- R75: an abrupt close of a slot that, if it is ACTIVE, has nothing waiting and no capture. -/
theorem State.did_abruptClose {st : SlotState} (hst : st ≠ .active) (hl : e.slot.AgeListed)
    (ha : e.slot.cu.st = .active → s.withheld ≠ some i ∧ e.slot.port.waitingRead = none ∧ e.slot.capture = none)
    (hw : s.withheld ≠ some i ∨ e.slot.trk.hold = []) : (s.did i e).abruptClose i st =
      { state := s.did i { e with
          slot := e.slot.abruptlyClosed st,
          sent := e.sent ++ (e.slot.heldStandIns ++ e.slot.owedStandIns).map .completion },
        completions := (e.slot.heldStandIns ++ e.slot.owedStandIns).length,
        requests := e.slot.trk.hold.length + e.slot.owedRequests } := by
  have hleft : (if e.slot.cu.st = .active then ((s.did i e).setSlotState i st).announceLeave i
      else (s.did i e).setSlotState i st) = s.did i { e with slot := { e.slot with
        cu := { e.slot.cu with st := st },
        trk := { e.slot.trk with watch := if e.slot.cu.st = .active then .idle else e.slot.trk.watch } } } := by
    rw [State.did_setSlotState]
    split
    · next h =>
      obtain ⟨h1, h2, h3⟩ := ha h
      exact State.did_announceLeave h1 h2 h3
    · rfl
  unfold State.abruptClose
  dsimp only
  rw [State.did_slot, hleft, State.did_onCu, State.did_drainHold (by exact hw)]
  dsimp only
  rw [State.closeAll_did]
  · have hwatch : (if e.slot.trk.age = [] then if e.slot.cu.st = .active then Watch.idle else e.slot.trk.watch
        else .idle) = if e.slot.cu.st = .active ∨ e.slot.trk.age ≠ [] then .idle else e.slot.trk.watch := by
      by_cases h1 : e.slot.trk.age = [] <;> simp [h1]
    unfold Slot.abruptlyClosed Slot.emptied
    rw [← hwatch, List.length_append, ← satAdd_satAdd, List.map_append, ← List.append_assoc]
    rfl
  · exact hst
  · exact ⟨hl.nodup, hl.lists⟩

/-- R75: an abrupt close of a slot out of ACTIVE that owes nothing. -/
theorem State.did_abruptClose_of_quiet {st : SlotState} (hst : st ≠ .active) (hq : e.slot.Quiet)
    (ha : e.slot.cu.st ≠ .active) : ((s.did i e).abruptClose i st).state =
      s.did i { e with slot := { e.slot with cu := { e.slot.cu with st := st, grace := none, followUp := .none } } } := by
  obtain ⟨hheld, howed⟩ := hq.nothing_owed
  rw [State.did_abruptClose hst hq.ageListed (fun h => absurd h ha) (.inr hq.2.2.1), hheld, howed, hq.abruptlyClosed ha]
  simp

/-! ### The end of a plan's request -/

/-- R25: the plan of a slot out of ACTIVE ends its operation. -/
theorem State.did_endOwner_plan {t : Tracker} (h : PlanRequestEnded e.slot t) (hst : e.slot.cu.st ≠ .active) :
    (s.did i e).endOwner i .plan = s.did i { e with slot := { e.slot with trk := t } } := by
  obtain ⟨-, ⟨hq, rfl⟩ | ⟨k, b, hb, ho, hfree, hage, hw, rfl⟩ | ⟨c, hfree, hage, hw, hc, rfl⟩⟩ := h
  · exact State.endOwner_of_noPlanRequest _ i (by rw [State.did_slot]; exact hq.noPlanRequest)
  · have howned : e.slot.trk.ownedEntry .plan = some k := by
      unfold Tracker.ownedEntry
      rw [find_finRange_eq_some]
      constructor
      · rw [OrtEntry.ownedBy, hb]
        simp [ho]
      · intro j hj
        rw [OrtEntry.ownedBy, hfree j (ne_of_lt hj)]
        rfl
    unfold State.endOwner
    dsimp only
    rw [State.did_slot, howned, hw]
    exact State.did_freeEntry fun h => absurd h hst
  · have howned : e.slot.trk.ownedEntry .plan = none := by
      unfold Tracker.ownedEntry
      rw [find_finRange_eq_none]
      intro j
      rw [OrtEntry.ownedBy, hfree j]
      rfl
    unfold State.endOwner
    dsimp only
    rw [State.did_slot, howned, hw, if_pos (by simp [hc]), State.did_onTracker]

/-! ### Retirement by order and the grant -/

/-- R77: a slot that has been retired by order, RETIRED being the n-th incident of an event from `s`. -/
def Slot.retiredByOrder (sl : Slot) (s : State) (n : Nat) (taken : SlotState) : Slot :=
  { sl.asserted with
    cu := { sl.cu with st := .retired, grace := none, followUp := .none },
    inc := sl.inc.file (incidentAt s n .retired .retired .none sl.asserted.port.epoch sl.attempt (.cause .order)
      (some (stateDword taken)) none none),
    ou := sl.ouEnding s.now 6 .done .none (stateDword taken) 0 0 }

/-- R77: the retirement by order of a slot out of ACTIVE that owes nothing. -/
theorem State.did_retireByOrder (hq : e.slot.Quiet) (ha : e.slot.cu.st ≠ .active) (taken : SlotState) :
    (s.did i e).retireByOrder i taken = s.did i { e with
      slot := e.slot.retiredByOrder s (e.filed + 1) taken,
      attn := e.attn ||| attentionMask i .incident ||| attentionMask i .stateChange ||| doneMask i e.slot 6,
      filed := e.filed + 1 } := by
  have hline : ({ e.slot with cu := { e.slot.cu with st := .retired, grace := none, followUp := .none } } : Slot).asserted =
      { e.slot.asserted with cu := { e.slot.cu with st := .retired, grace := none, followUp := .none } } := by
    rw [e.slot.asserted_of_blocks _ e.slot.trk e.slot.ou e.slot.inc e.slot.attempt, ← Slot.asserted_trk,
      ← Slot.asserted_ou, ← Slot.asserted_inc, ← Slot.asserted_attempt]
  have hou : e.slot.asserted.ou = e.slot.ou := e.slot.asserted_ou
  unfold State.retireByOrder
  rw [State.did_abruptClose_of_quiet (by decide) hq ha, State.did_assertLine, hline,
    State.did_fileIncident (phase := .none), State.did_raise, State.did_endOrderOf]
  · unfold Slot.retiredByOrder Slot.ouEnding doneMask Slot.orderOfCode
    dsimp only
    rw [hou, Slot.asserted_inc, Slot.asserted_attempt]
    rfl
  · exact State.did_phaseOf (by simp)

/-- R115: nothing is granted while a plan runs or no entry is eligible. -/
theorem State.did_grantIfIdle (h : e.plan ≠ none ∨ NoneEligible { s with queue := e.queue }) :
    (s.did i e).grantIfIdle = s.did i e := by
  obtain h | h := h
  · obtain ⟨p, hp⟩ := Option.ne_none_iff_exists'.mp h
    exact State.grantIfIdle_of_plan _ p hp
  · exact State.grantIfIdle_of_noneEligible _ h

/-- R115: the entries of the other slots, once slot `i` has left the queue. -/
theorem OthersWait.noneEligible_of_left (h : OthersWait s i) : NoneEligible { s with queue := s.queue.set i none } := by
  intro k q hq
  have hget : (s.queue.set i none)[k] = if k = i then none else s.queue[k] := getElem_set_fin _ _ _ _
  rw [show (s.queue.set i none)[k] = some q from hq] at hget
  split at hget
  · cases hget
  · next hk => exact h k hk q hget.symm

end

end Sys2Proof.Machine

/-! PROOF. What the sequencer does when it gives a slot up, and a RETIRE order taken at rest or in RECOVERING (R25, R77, R132
to R134, R155). -/

namespace Sys2Proof.Machine

open Sys2Proof

section
variable {s : State} {i : SlotId} {e : Effect} {p : Plan} {t : Tracker}

/-! ### The sequencer gives a slot up (R133, R134) -/

theorem State.did_giveUp_of_other (atRemoval : Bool) (h : ∀ p, e.plan = some p → p.slot ≠ i) :
    (s.did i e).giveUp i atRemoval = s.did i { e with queue := e.queue.set i none } := by
  have hq : (s.did i e).setQueue i none = s.did i { e with queue := e.queue.set i none } := rfl
  have hp : (s.did i { e with queue := e.queue.set i none }).plan = e.plan := rfl
  unfold State.giveUp
  dsimp only
  rw [hq, hp]
  split
  · next p hplan => rw [if_neg (h p hplan)]
  · rfl

theorem State.did_giveUp_of_plan (hp : e.plan = some p) (hi : p.slot = i) (hq : e.queue[i] = none) (atRemoval : Bool) :
    (s.did i e).giveUp i atRemoval =
      if p.stop && atRemoval then (s.did i e).stopPlan p else (s.did i e).abandonPlan p := by
  have hqueue : (s.did i e).setQueue i none = s.did i e := by
    rw [State.did_setQueue, ← hq]
    simp
  have hplan : (s.did i e).plan = some p := hp
  unfold State.giveUp
  dsimp only
  rw [hqueue, hplan]
  dsimp only
  rw [if_pos hi]

/-- R133, R134: the current plan of a slot out of ACTIVE is abandoned. -/
theorem State.did_abandonPlan (hi : p.slot = i) (ht : PlanRequestEnded e.slot t) (hst : e.slot.cu.st ≠ .active) :
    (s.did i e).abandonPlan p = s.did i { e with slot := { e.slot with trk := t }, plan := none } := by
  subst hi
  unfold State.abandonPlan
  rw [State.did_endOwner_plan ht hst, State.did_setPlan]

/-- R132: a stop request of the plan of a slot out of ACTIVE is acted on. -/
theorem State.did_stopPlan (hi : p.slot = i) (ht : PlanRequestEnded e.slot t) (hst : e.slot.cu.st ≠ .active) :
    (s.did i e).stopPlan p = s.did i { e with
      slot := { e.slot with
        cu := { e.slot.cu with st := if e.slot.port.line = .asserted then .offline else .fenced },
        trk := t, attempt := 0,
        ou := e.slot.ouEnding s.now 4 .cancelled .none (countDword p.attempt) 0 0 },
      attn := e.attn ||| attentionMask i .stateChange ||| doneMask i e.slot 4, plan := none } := by
  subst hi
  unfold State.stopPlan
  dsimp only
  rw [State.did_slot, State.did_endOwner_plan ht hst, State.did_setPlan, State.did_setSlotState, State.did_setAttempt,
    State.did_raise, State.did_endOrderOf]
  rfl

/-! ### RETIRE -/

/-- R153: a slot once a RETIRE order has been handed over. -/
def Slot.retireBegun (sl : Slot) (number : BitVec 16) (priority : Byte) : Slot :=
  { sl with ou := sl.ou.begun 6 number priority (orderLevel priority sl.inForce) sl.cu.st }

/-- What the hand-over of a RETIRE order has done. -/
def retireBegun (s : State) (i : SlotId) (number : BitVec 16) (priority : Byte) : Effect :=
  { Effect.none s i with
    slot := (s.slots[i]).retireBegun number priority, attn := s.attn &&& ~~~ (attentionMask i .orderDone) }

theorem exec_orderRetire {number : BitVec 16} {priority : Byte} (h : (s.slots[i]).ou.cell.owner = .software) :
    exec (.orderRetire i number priority) s =
      event (fun _ => (s.did i (retireBegun s i number priority)).orderRetire i) s := by
  refine event_congr (s := s) (f := fun s => s.handOver i OrderCode.retire.code number priority)
    (g := fun _ => (s.did i (retireBegun s i number priority)).orderRetire i) ?_
  rw [handOver_of_software s i OrderCode.retire.code number priority h]
  simp only [retireBegun, State.did, Effect.none, List.append_nil, BitVec.add_zero]
  rfl

/-- What a RETIRE order that ends in the event of its hand-over makes of its slot. -/
theorem Slot.retiredByOrder_retireBegun (sl : Slot) (s : State) (number : BitVec 16) (priority : Byte) (t : Tracker) :
    ({ sl.retireBegun number priority with trk := t } : Slot).retiredByOrder s 1 sl.cu.st =
      { sl.asserted with
        cu := { sl.cu with st := .retired, grace := none, followUp := .none }, trk := t,
        inc := sl.inc.file (incidentAt s 1 .retired .retired .none sl.asserted.port.epoch sl.attempt (.cause .order)
          (some (sl.cu.st.code.setWidth 32)) none none),
        ou := sl.ou.judged s.now 6 number priority .done .none (sl.cu.st.code.setWidth 32) 0 0 } := by
  have hline : ({ sl.retireBegun number priority with trk := t } : Slot).asserted =
      { sl.asserted with trk := t, ou := (sl.retireBegun number priority).ou } := by
    refine (sl.asserted_of_blocks sl.cu t (sl.retireBegun number priority).ou sl.inc sl.attempt).trans ?_
    rw [← Slot.asserted_cu, ← Slot.asserted_inc, ← Slot.asserted_attempt]
  unfold Slot.retiredByOrder
  rw [hline]
  rfl

theorem retire_attn (a m n p : BitVec 24) : (a &&& ~~~ m) ||| n ||| p ||| m = a ||| m ||| n ||| p := by
  rw [BitVec.or_assoc (a &&& ~~~ m), or_or_of_cleared, BitVec.or_assoc (a ||| m)]

theorem State.orderRetire_of_rest (h : (s.slots[i]).cu.st = .offline ∨ (s.slots[i]).cu.st = .fenced) :
    s.orderRetire i = s.retireByOrder i (s.slots[i]).cu.st := by
  unfold State.orderRetire
  rcases h with h | h <;> rw [h]

theorem State.orderRetire_of_recovering (h : (s.slots[i]).cu.st = .recovering) :
    s.orderRetire i = ((s.giveUp i false).retireByOrder i .recovering).grantIfIdle := by
  unfold State.orderRetire
  rw [h]

/-- R77: the outcome of a RETIRE order whose slot, once it owes nothing, is retired in the event of the hand-over. -/
theorem exec_orderRetire_retires {number : BitVec 16} {priority : Byte} {plan : Option Plan}
    {queue : Vector (Option QueueEntry) 8} (howner : (s.slots[i]).ou.cell.owner = .software)
    (hactive : (s.slots[i]).cu.st ≠ .active) (hq : ({ s.slots[i] with trk := t } : Slot).Quiet)
    (hr : (s.did i (retireBegun s i number priority)).orderRetire i =
      (s.did i { retireBegun s i number priority with
        slot := { (s.slots[i]).retireBegun number priority with trk := t }, plan := plan, queue := queue }).retireByOrder i
        (s.slots[i]).cu.st) :
    exec (.orderRetire i number priority) s = .next { slotAfter s i { (s.slots[i]).asserted with
        cu := { (s.slots[i]).cu with st := .retired, grace := none, followUp := .none }, trk := t,
        inc := (s.slots[i]).inc.file (incidentAt s 1 .retired .retired .none (s.slots[i]).asserted.port.epoch
          (s.slots[i]).attempt (.cause .order) (some ((s.slots[i]).cu.st.code.setWidth 32)) none none),
        ou := (s.slots[i]).ou.judged s.now 6 number priority .done .none ((s.slots[i]).cu.st.code.setWidth 32) 0 0 }
        (s.attn ||| attentionMask i .orderDone ||| attentionMask i .incident ||| attentionMask i .stateChange) 1 [] with
      plan := plan, queue := queue } := by
  rw [exec_orderRetire howner, hr, State.did_retireByOrder (by exact hq) hactive, event_did rfl]
  dsimp only [retireBegun, Effect.none]
  rw [Slot.retiredByOrder_retireBegun, ← retire_attn s.attn (attentionMask i .orderDone)]
  rfl

/-- Settles O18: the sequencer gives a RECOVERING slot up, and the slot, which then owes nothing, is retired by order. -/
theorem retireFromRest : Obligations.RetireFromRest := by
  intro i number priority s sl run a st retired howner
  refine ⟨fun hst hq => ?rest, fun e he hst hq hp ho => ?queued, fun p hp hst hi hqueue hn trk ht => ?plan⟩
  case rest =>
    have hactive : sl.cu.st ≠ .active := by rcases hst with h | h <;> rw [h] <;> decide
    refine exec_orderRetire_retires (t := sl.trk) howner hactive hq ?_
    rw [State.orderRetire_of_rest (by rw [State.did_slot]; exact hst), State.did_slot]
    rfl
  case queued =>
    refine exec_orderRetire_retires (t := sl.trk) (plan := s.plan) howner (by rw [hst]; decide) hq ?_
    have hactive : (s.slots[i]).cu.st ≠ .active := by rw [hst]; decide
    rw [State.orderRetire_of_recovering (by rw [State.did_slot]; exact hst), State.did_giveUp_of_other false hp,
      State.did_retireByOrder (by exact hq) (by exact hactive), State.did_grantIfIdle, hst]
    · rw [State.did_retireByOrder (by exact hq) (by exact hactive)]
      rfl
    · exact ho.imp_right OthersWait.noneEligible_of_left
  case plan =>
    have hactive : (s.slots[i]).cu.st ≠ .active := by rw [hst]; decide
    refine exec_orderRetire_retires (plan := none) (queue := s.queue) howner hactive ht.quiet ?_
    rw [State.orderRetire_of_recovering (by rw [State.did_slot]; exact hst), State.did_giveUp_of_plan hp hi hqueue,
      Bool.and_false, if_neg Bool.false_ne_true, State.did_abandonPlan hi ht (by exact hactive),
      State.did_retireByOrder (by exact ht.quiet) (by exact hactive), State.did_grantIfIdle, hst]
    · rw [State.did_retireByOrder (by exact ht.quiet) (by exact hactive)]
      rfl
    · exact .inr hn

end

end Sys2Proof.Machine

/-! PROOF. The removal of a card (R25, R75, R99, R101, R132, R133). -/

namespace Sys2Proof.Machine

open Sys2Proof

/-! ### What a removal makes of a slot -/

/-- R101: an Order Unit once the order in progress has ended FAILED at a removal in the slot state `st`. -/
def OrderUnit.failedAtRemoval (u : OrderUnit) (now : Tick) (st : SlotState) : OrderUnit :=
  match u.order with
  | some o => u.ended now o .failed .cardRemoved (st.code.setWidth 32) 0 0
  | none => u

/-- R101: a slot whose card has been removed in the slot state `st` and the phase `ph`, CARD_REMOVED being the n-th
incident of an event from `s`. -/
def Slot.removed (sl : Slot) (s : State) (n : Nat) (st : SlotState) (ph : Phase) : Slot :=
  { sl.asserted with
    cu := { sl.cu with st := .empty, grace := none, followUp := .none },
    trk := (sl.abruptlyClosed .empty).trk,
    ctr := { sl.asserted.ctr with
      standinsIssued := satAdd sl.asserted.ctr.standinsIssued (sl.heldStandIns ++ sl.owedStandIns).length },
    inc := sl.inc.file (incidentAt s n .cardRemoved .empty .none sl.asserted.port.epoch sl.attempt (.slotState st)
      (some (countDword (sl.heldStandIns ++ sl.owedStandIns).length)) (some (countDword sl.returnOpenCount))
      (some (ph.code.setWidth 32))),
    ou := sl.ou.failedAtRemoval s.now st }

/-- What an assert command does to a slot that has been closed abruptly. -/
theorem Slot.asserted_abruptlyClosed (sl : Slot) (st : SlotState) : (sl.abruptlyClosed st).asserted =
    { sl.asserted with
      cu := (sl.abruptlyClosed st).cu, trk := (sl.abruptlyClosed st).trk,
      ctr := { sl.asserted.ctr with
        standinsIssued := satAdd sl.asserted.ctr.standinsIssued (sl.heldStandIns ++ sl.owedStandIns).length } } := by
  by_cases hline : sl.port.line = .asserted
  · simp only [Slot.abruptlyClosed, Slot.asserted, hline, if_true]
  · by_cases hup : sl.port.link = .up <;> simp only [Slot.abruptlyClosed, Slot.asserted, hline, hup, if_true, if_false]

section
variable {s : State} {i : SlotId} {e : Effect} {p : Plan} {t : Tracker}

/-- R156: the end of whatever order is in progress, at a removal. -/
theorem State.did_endOrder_failed (st : SlotState) :
    (s.did i e).endOrder i .failed .cardRemoved (stateDword st) 0 0 = s.did i { e with
      slot := { e.slot with ou := e.slot.ou.failedAtRemoval s.now st },
      attn := e.attn ||| if e.slot.ou.order.isSome = true then attentionMask i .orderDone else 0 } := by
  unfold State.endOrder OrderUnit.failedAtRemoval
  rw [State.did_slot]
  cases h : e.slot.ou.order with
  | none =>
    have hzero : e.attn ||| 0 = e.attn := BitVec.or_zero
    rw [Option.isSome_none, if_neg Bool.false_ne_true, if_neg Bool.false_ne_true, hzero]
  | some o =>
    rw [Option.isSome_some, if_pos rfl, if_pos rfl, show (s.did i e).onOrderUnit i _ = (s.did i e).onSlot i _ from rfl,
      State.did_onSlot, State.did_raise]
    simp only [OrderUnit.finish, h]
    rfl

/-- R101, steps 2 to 5. -/
theorem State.did_closedAndReported (hl : e.slot.AgeListed)
    (ha : e.slot.cu.st = .active → s.withheld ≠ some i ∧ e.slot.port.waitingRead = none ∧ e.slot.capture = none)
    (hw : s.withheld ≠ some i ∨ e.slot.trk.hold = []) (st : SlotState) (ph : Phase) :
    ((s.did i e).abruptClose i .empty).state.removalReports i st ph ((s.did i e).abruptClose i .empty).completions =
      s.did i { e with
        slot := e.slot.removed s (e.filed + 1) st ph,
        attn := e.attn ||| (if e.slot.ou.order.isSome = true then attentionMask i .orderDone else 0) |||
          attentionMask i .incident ||| attentionMask i .stateChange,
        filed := e.filed + 1,
        sent := e.sent ++ (e.slot.heldStandIns ++ e.slot.owedStandIns).map .completion } := by
  unfold State.removalReports
  dsimp only
  rw [State.did_abruptClose (by decide) hl ha hw]
  dsimp only
  rw [State.did_assertLine, Slot.asserted_abruptlyClosed, State.did_endOrder_failed, State.did_slot,
    State.did_fileIncident (phase := .none), State.did_raise]
  · have hou : e.slot.asserted.ou = e.slot.ou := e.slot.asserted_ou
    unfold Slot.removed Slot.returnOpenCount
    dsimp only
    rw [hou, Slot.asserted_inc, Slot.asserted_attempt, Slot.asserted_rmap]
    rfl
  · exact State.did_phaseOf (by simp [Slot.abruptlyClosed])

/-- R101: the removal of a card from a slot that, once the sequencer has given it up, is at `e'.slot`. -/
theorem State.did_cardRemoved {e' : Effect} (hg : (s.did i e).removalGivesUp i = s.did i e') (hl : e'.slot.AgeListed)
    (ha : e'.slot.cu.st = .active → s.withheld ≠ some i ∧ e'.slot.port.waitingRead = none ∧ e'.slot.capture = none)
    (hw : s.withheld ≠ some i ∨ e'.slot.trk.hold = [])
    (hn : e.slot.cu.st = .recovering → e'.plan ≠ none ∨ NoneEligible { s with queue := e'.queue }) :
    (s.did i e).cardRemoved i = s.did i { e' with
      slot := e'.slot.removed s (e'.filed + 1) e.slot.cu.st ((s.did i e).phaseOf i),
      attn := e'.attn ||| (if e'.slot.ou.order.isSome = true then attentionMask i .orderDone else 0) |||
        attentionMask i .incident ||| attentionMask i .stateChange,
      filed := e'.filed + 1,
      sent := e'.sent ++ (e'.slot.heldStandIns ++ e'.slot.owedStandIns).map .completion } := by
  unfold State.cardRemoved
  dsimp only
  rw [hg, State.did_closedAndReported hl ha hw, State.did_slot]
  split
  · next hst => exact State.did_grantIfIdle (hn hst)
  · rfl

/-! ### The three ways a removal finds the sequencer -/

/-- A slot whose presence line has been accepted as ABSENT (R99). -/
def Slot.sampledAbsent (sl : Slot) : Slot :=
  { sl with port := { sl.port with accepted := .absent, runCount := 0, sampleTimer := 1000 } }

/-- The machine whose presence line of slot `i` stands ABSENT (R99). -/
def State.readsAbsent (s : State) (i : SlotId) : State :=
  { s with wires := { s.wires with presence := s.wires.presence.set i .absent } }

/-- What the eighth ABSENT reading has done when the removal is taken. -/
def absentAccepted (s : State) (i : SlotId) : Effect := { Effect.none s i with slot := (s.slots[i]).sampledAbsent }

/-- R99, R101: the outcome of the eighth ABSENT reading in a row. -/
theorem exec_presenceSample_absent (ha : (s.slots[i]).port.accepted = .present) (hr : (s.slots[i]).port.runCount = 7)
    (h : ((s.readsAbsent i).did i (absentAccepted s i)).cardRemoved i = (s.readsAbsent i).did i e) :
    exec (.presenceSample i .absent) s = .next { slotAfter s i e.slot e.attn e.filed e.sent with
      plan := e.plan, queue := e.queue, freeIndex := e.free,
      wires := { (slotAfter s i e.slot e.attn e.filed e.sent).wires with
        presence := s.wires.presence.set i .absent } } := by
  have hacc : (s.slots[i]).port.accepts .absent = true := by
    rw [SlotPort.accepts, ha, hr]
    rfl
  have hsampled : ({ (s.onPort i fun q => q.sampled .absent) with
      wires := { s.wires with presence := s.wires.presence.set i .absent } } : State) =
      (s.readsAbsent i).did i (absentAccepted s i) := by
    have hport : (s.slots[i]).port.sampled .absent = (s.slots[i]).sampledAbsent.port := by
      unfold SlotPort.sampled
      rw [hacc, if_pos rfl, if_pos (.inr rfl)]
      rfl
    simp only [State.onPort, State.onSlot, hport, absentAccepted, State.did, Effect.none, State.readsAbsent,
      List.append_nil, BitVec.add_zero]
    rfl
  refine (event_next (f := fun s => s.presenceSample i .absent) (t := (s.readsAbsent i).did i e) ?_).trans rfl
  rw [← h, ← hsampled]
  unfold State.presenceSample
  dsimp only
  rw [hacc, if_pos rfl]
  rfl

theorem State.did_removalGivesUp_of_not_recovering (h : e.slot.cu.st ≠ .recovering) :
    (s.did i e).removalGivesUp i = s.did i { e with slot := { e.slot with attempt := 0 } } := by
  unfold State.removalGivesUp
  rw [State.did_slot, if_neg h, State.did_setAttempt]

theorem State.did_removalGivesUp_of_recovering (h : e.slot.cu.st = .recovering) :
    (s.did i e).removalGivesUp i = ((s.did i e).giveUp i true).setAttempt i 0 := by
  unfold State.removalGivesUp
  rw [State.did_slot, if_pos h]

/-- R111: the phase of a slot with a Recovery Queue entry. -/
theorem State.did_phaseOf_of_queued (h : e.slot.cu.st = .recovering) (hq : e.queue[i] ≠ none) :
    (s.did i e).phaseOf i = .queued := by
  unfold State.phaseOf
  rw [State.did_slot, if_pos h]
  exact if_pos (Option.isSome_iff_ne_none.mpr hq)

/-- R111: the phase of the current plan's slot. -/
theorem State.did_phaseOf_of_plan (h : e.slot.cu.st = .recovering) (hq : e.queue[i] = none) (hp : e.plan = some p)
    (hi : p.slot = i) : (s.did i e).phaseOf i = p.phase.shown := by
  have hnone : (s.did i e).queue[i] = none := hq
  have hplan : (s.did i e).plan = some p := hp
  unfold State.phaseOf
  rw [State.did_slot, if_pos h, hnone, hplan]
  exact if_pos hi

end

section
variable (sl : Slot)

/-- R101: a slot that a removal in the slot state `st` and the phase `ph` leaves with Tracker `t` and Order Unit `ou` after the
stand-ins `cs`. -/
def Slot.withoutCard (s : State) (st : SlotState) (ph : Phase) (t : Tracker) (cs : List Completion) (ou : OrderUnit) : Slot :=
  { sl.asserted with
    cu := { sl.cu with st := .empty, grace := none, followUp := .none }, attempt := 0, trk := t,
    ctr := { sl.asserted.ctr with standinsIssued := satAdd sl.asserted.ctr.standinsIssued cs.length },
    inc := sl.inc.file (incidentAt s 1 .cardRemoved .empty .none sl.asserted.port.epoch 0 (.slotState st)
      (some (countDword cs.length)) (some (countDword sl.returnOpenCount)) (some (ph.code.setWidth 32))),
    ou := ou }

/-- What a removal makes of a slot, with what the sequencer leaves of the slot put in. -/
theorem Slot.removed_of_blocks (s : State) (st st' : SlotState) (ph : Phase) (t : Tracker) (ou : OrderUnit) :
    ({ sl with cu := { sl.cu with st := st' }, trk := t, ou := ou, attempt := 0 } : Slot).removed s 1 st ph =
      sl.withoutCard s st ph (({ sl with cu := { sl.cu with st := st' }, trk := t } : Slot).abruptlyClosed .empty).trk
        (({ sl with trk := t } : Slot).heldStandIns ++ ({ sl with trk := t } : Slot).owedStandIns)
        (ou.failedAtRemoval s.now st) := by
  have hline := sl.asserted_of_blocks { sl.cu with st := st' } t ou sl.inc 0
  unfold Slot.removed
  rw [hline]
  rfl

theorem Slot.removed_of_quiet {t : Tracker} {st' : SlotState} (hq : ({ sl with trk := t } : Slot).Quiet) (hst : st' ≠ .active)
    (s : State) (st : SlotState) (ph : Phase) (ou : OrderUnit) :
    ({ sl with cu := { sl.cu with st := st' }, trk := t, ou := ou, attempt := 0 } : Slot).removed s 1 st ph =
      sl.withoutCard s st ph t [] (ou.failedAtRemoval s.now st) := by
  obtain ⟨hheld, howed⟩ := hq.nothing_owed
  have hq' : ({ sl with cu := { sl.cu with st := st' }, trk := t } : Slot).Quiet := hq
  rw [Slot.removed_of_blocks, hheld, howed, hq'.abruptlyClosed hst]
  rfl

/-- R101, R132: an Order Unit after a removal, before which a stop request ended its RECOVER order CANCELLED if `cancelled`. -/
def OrderUnit.atRemoval (u : OrderUnit) (now : Tick) (st : SlotState) (cancelled : Bool) (attempt : Nat) : OrderUnit :=
  match u.order with
  | some o =>
    if cancelled = true ∧ o.code = 4 then u.ended now o .cancelled .none (BitVec.ofNat 32 attempt) 0 0
    else u.ended now o .failed .cardRemoved (st.code.setWidth 32) 0 0
  | none => u

theorem OrderUnit.failedAtRemoval_eq (u : OrderUnit) (now : Tick) (st : SlotState) (k : Nat) :
    u.failedAtRemoval now st = u.atRemoval now st false k := by
  unfold OrderUnit.failedAtRemoval OrderUnit.atRemoval
  cases u.order <;> rfl

/-- R132: the stop request ends a RECOVER order, and the removal any other. -/
theorem Slot.failedAtRemoval_ouEnding (now : Tick) (st : SlotState) (k : Nat) :
    (sl.ouEnding now 4 .cancelled .none (countDword k) 0 0).failedAtRemoval now st = sl.ou.atRemoval now st true k := by
  cases ho : sl.ou.order with
  | none => simp only [Slot.ouEnding, Slot.orderOfCode, OrderUnit.failedAtRemoval, OrderUnit.atRemoval, ho, Option.filter_none]
  | some o =>
    by_cases hc : o.code = 4
    · have hf : sl.orderOfCode 4 = some o := by simp [Slot.orderOfCode, ho, hc]
      simp only [Slot.ouEnding, hf, OrderUnit.failedAtRemoval, OrderUnit.atRemoval, OrderUnit.ended, ho, hc, and_self,
        if_true]
      rfl
    · have hf : sl.orderOfCode 4 = none := by simpa [Slot.orderOfCode, ho] using hc
      simp only [Slot.ouEnding, hf, OrderUnit.failedAtRemoval, OrderUnit.atRemoval, ho, hc, and_false, if_false]

/-- R156: ORDER_DONE is raised once, by the stop request or by the removal. -/
theorem doneMask_or_of_cancelled (i : SlotId) (now : Tick) (k : Dword) :
    (doneMask i sl 4 ||| if (sl.ouEnding now 4 .cancelled .none k 0 0).order.isSome = true then
      attentionMask i .orderDone else 0) = if sl.ou.order.isSome = true then attentionMask i .orderDone else 0 := by
  unfold doneMask Slot.ouEnding
  cases ho : sl.orderOfCode 4 with
  | none => simp
  | some o =>
    have hsome : sl.ou.order = some o := (Option.filter_eq_some_iff.mp ho).1
    simp [hsome, OrderUnit.ended]

end

section
variable {s : State} {i : SlotId}

theorem or_of_raised_before {w : Nat} (a b c d r : BitVec w) : a ||| c ||| d ||| r ||| b ||| c = a ||| (d ||| r) ||| b ||| c := by
  apply BitVec.eq_of_getLsbD_eq
  intro j hj
  simp only [BitVec.getLsbD_or]
  cases c.getLsbD j <;> simp [Bool.or_assoc]

/-- What a removal taken in the phase `ph` has done that leaves Tracker `t` after the stand-ins `cs`. -/
def cardGone (s : State) (i : SlotId) (ph : Phase) (t : Tracker) (cs : List Completion) (cancelled : Bool) (attempt : Nat)
    (plan : Option Plan) (queue : Vector (Option QueueEntry) 8) : Effect :=
  { slot := (s.slots[i]).sampledAbsent.withoutCard s (s.slots[i]).cu.st ph t cs
      ((s.slots[i]).ou.atRemoval s.now (s.slots[i]).cu.st cancelled attempt),
    attn := s.attn ||| (if (s.slots[i]).ou.order.isSome = true then attentionMask i .orderDone else 0) |||
      attentionMask i .incident ||| attentionMask i .stateChange,
    filed := 1, sent := cs.map .completion, plan := plan, queue := queue, free := s.freeIndex }

theorem cardRemoved_at_rest (hst : (s.slots[i]).cu.st ≠ .recovering) (hcap : (s.slots[i]).capture = none)
    (hread : (s.slots[i]).port.waitingRead = none) (hw : s.withheld ≠ some i) (hl : (s.slots[i]).AgeListed) :
    ((s.readsAbsent i).did i (absentAccepted s i)).cardRemoved i = (s.readsAbsent i).did i
      (cardGone s i .none ((s.slots[i]).abruptlyClosed .empty).trk
        ((s.slots[i]).heldStandIns ++ (s.slots[i]).owedStandIns) false 0 s.plan s.queue) := by
  have hslot := (s.slots[i]).sampledAbsent.removed_of_blocks s (s.slots[i]).cu.st (s.slots[i]).cu.st .none
    (s.slots[i]).trk (s.slots[i]).ou
  rw [OrderUnit.failedAtRemoval_eq _ _ _ 0] at hslot
  rw [State.did_cardRemoved (s := s.readsAbsent i) (State.did_removalGivesUp_of_not_recovering hst) ⟨hl.nodup, hl.lists⟩
    (fun _ => ⟨hw, hread, hcap⟩) (.inl hw) (fun h => absurd h hst), State.did_phaseOf (by exact hst)]
  exact congrArg _ (Effect.ext hslot rfl rfl rfl rfl rfl rfl)

/-- R101, R133: a removal once the sequencer has given up a slot that then owes nothing. -/
theorem cardRemoved_of_givenUp {t : Tracker} {st' : SlotState} {ou : OrderUnit} {attn : BitVec 24} {plan : Option Plan}
    {queue : Vector (Option QueueEntry) 8} {ph : Phase}
    (hup : ((s.readsAbsent i).did i (absentAccepted s i)).removalGivesUp i = (s.readsAbsent i).did i
      { absentAccepted s i with
        slot := { (s.slots[i]).sampledAbsent with
          cu := { (s.slots[i]).cu with st := st' }, trk := t, ou := ou, attempt := 0 },
        attn := attn, plan := plan, queue := queue })
    (hph : ((s.readsAbsent i).did i (absentAccepted s i)).phaseOf i = ph)
    (hq : ({ s.slots[i] with trk := t } : Slot).Quiet) (hst : st' ≠ .active)
    (hn : plan ≠ none ∨ NoneEligible { s with queue := queue }) :
    ((s.readsAbsent i).did i (absentAccepted s i)).cardRemoved i = (s.readsAbsent i).did i
      { slot := (s.slots[i]).sampledAbsent.withoutCard s (s.slots[i]).cu.st ph t []
          (ou.failedAtRemoval s.now (s.slots[i]).cu.st),
        attn := attn ||| (if ou.order.isSome = true then attentionMask i .orderDone else 0) |||
          attentionMask i .incident ||| attentionMask i .stateChange,
        filed := 1, sent := [], plan := plan, queue := queue, free := s.freeIndex } := by
  have hslot := (s.slots[i]).sampledAbsent.removed_of_quiet hq hst s (s.slots[i]).cu.st ph ou
  obtain ⟨hheld, howed⟩ := hq.nothing_owed
  rw [State.did_cardRemoved hup ⟨hq.ageListed.nodup, hq.ageListed.lists⟩ (fun h => absurd h hst) (.inr hq.2.2.1)
    (fun _ => hn), hph]
  exact congrArg _ (Effect.ext hslot rfl rfl (congrArg (List.map HostPacket.completion) (congrArg₂ List.append hheld howed))
    rfl rfl rfl)

theorem cardRemoved_of_queued {q : QueueEntry} (he : s.queue[i] = some q) (hst : (s.slots[i]).cu.st = .recovering)
    (hq : (s.slots[i]).Quiet) (hp : ∀ p, s.plan = some p → p.slot ≠ i) (ho : s.plan ≠ none ∨ OthersWait s i) :
    ((s.readsAbsent i).did i (absentAccepted s i)).cardRemoved i = (s.readsAbsent i).did i
      (cardGone s i .queued (s.slots[i]).trk [] false 0 s.plan (s.queue.set i none)) := by
  refine (cardRemoved_of_givenUp (st' := (s.slots[i]).cu.st) (ou := (s.slots[i]).ou) (attn := s.attn) ?_
    (State.did_phaseOf_of_queued hst (fun h => Option.some_ne_none q (he.symm.trans h))) hq (by rw [hst]; decide)
    (ho.imp_right OthersWait.noneEligible_of_left)).trans ?_
  · rw [State.did_removalGivesUp_of_recovering hst, State.did_giveUp_of_other true hp, State.did_setAttempt]
    rfl
  · rw [OrderUnit.failedAtRemoval_eq _ _ _ 0]
    rfl

theorem cardRemoved_of_plan {p : Plan} {t : Tracker} (hp : s.plan = some p) (hst : (s.slots[i]).cu.st = .recovering)
    (hi : p.slot = i) (hqueue : s.queue[i] = none) (hn : NoneEligible s) (ht : PlanRequestEnded s.slots[i] t) :
    ((s.readsAbsent i).did i (absentAccepted s i)).cardRemoved i = (s.readsAbsent i).did i
      (cardGone s i p.phase.shown t [] p.stop p.attempt none s.queue) := by
  have hactive : (s.slots[i]).cu.st ≠ .active := by rw [hst]; decide
  have hphase : ((s.readsAbsent i).did i (absentAccepted s i)).phaseOf i = p.phase.shown :=
    State.did_phaseOf_of_plan hst hqueue hp hi
  have hgives : ((s.readsAbsent i).did i (absentAccepted s i)).giveUp i true = _ :=
    State.did_giveUp_of_plan hp hi hqueue true
  rw [Bool.and_true] at hgives
  have hup := State.did_removalGivesUp_of_recovering (s := s.readsAbsent i) (i := i) (e := absentAccepted s i) hst
  cases hstop : p.stop with
  | false =>
    refine (cardRemoved_of_givenUp (plan := none) (ou := (s.slots[i]).ou) (attn := s.attn) ?_ hphase ht.quiet hactive (.inr hn)).trans ?_
    · rw [hup, hgives, hstop, if_neg Bool.false_ne_true, State.did_abandonPlan hi ht hactive, State.did_setAttempt]
      rfl
    · rw [OrderUnit.failedAtRemoval_eq _ _ _ p.attempt]
      rfl
  | true =>
    refine (cardRemoved_of_givenUp (plan := none)
      (st' := if (s.slots[i]).port.line = .asserted then .offline else .fenced)
      (ou := (s.slots[i]).ouEnding s.now 4 .cancelled .none (countDword p.attempt) 0 0)
      (attn := s.attn ||| attentionMask i .stateChange ||| doneMask i s.slots[i] 4) ?_ hphase ht.quiet
      (by split <;> decide) (.inr hn)).trans ?_
    · rw [hup, hgives, hstop, if_pos rfl, State.did_stopPlan hi ht hactive, State.did_setAttempt]
      rfl
    · have hattn := doneMask_or_of_cancelled (s.slots[i]) i s.now (countDword p.attempt)
      have hou := (s.slots[i]).failedAtRemoval_ouEnding s.now (s.slots[i]).cu.st p.attempt
      refine congrArg _ (Effect.ext (congrArg (Slot.withoutCard _ s _ _ t []) hou) ?_ rfl rfl rfl rfl rfl)
      refine (or_of_raised_before _ _ _ _ _).trans ?_
      dsimp only [cardGone]
      rw [← hattn]

/-- Settles O53: the sequencer gives the slot up first, then everything owed is settled, and the removal is reported. -/
theorem cardRemoval : Obligations.CardRemoval := by
  intro i s sl run sampled a st removed haccepted hrun
  refine ⟨fun hst hcap hread hw hnodup hlists => ?rest, fun e he hst hq hp ho => ?queued,
    fun p hp hst hi hqueue hn trk ht => ?plan⟩
  case rest =>
    exact exec_presenceSample_absent haccepted hrun (cardRemoved_at_rest hst hcap hread hw ⟨hnodup, hlists⟩)
  case queued => exact exec_presenceSample_absent haccepted hrun (cardRemoved_of_queued he hst hq hp ho)
  case plan => exact exec_presenceSample_absent haccepted hrun (cardRemoved_of_plan hp hst hi hqueue hn ht)

end

end Sys2Proof.Machine

/-! PROOF. The beginning of a fence and its closure as effects, and a fence trigger that is taken (R62, R64, R65, R68 to
R74). -/

namespace Sys2Proof.Machine

open Sys2Proof

section
variable {s : State} {i : SlotId} {e : Effect}

/-! ### The beginning of a fence (R68) -/

/-- R68: a slot whose fence has begun at tick `now` and whose grace runs. -/
def Slot.fenceBegun (sl : Slot) (now : Tick) (cause : FenceCause) : Slot :=
  { sl with
    cu := { sl.cu with
      st := .fencing, cause := cause, grace := some (now + BitVec.ofNat 32 sl.inForce.graceUs.toNat),
      tally := { start := now, completions := sl.heldStandIns.length, requests := sl.trk.hold.length } },
    trk := { sl.trk with hold := [], watch := .idle },
    ctr := { sl.ctr with standinsIssued := satAdd sl.ctr.standinsIssued sl.heldStandIns.length } }

/-- R62, R68: a fence of a slot with an entry OPEN, in which nothing waits and no capture is in progress. -/
theorem State.did_beginFence {cause : FenceCause} (hc : cause ≠ .linkDown) (hg : e.slot.inForce.graceUs ≠ 0)
    (ho : ∃ k : Fin 32, (e.slot.trk.ort[k]).body ≠ none) (hcap : e.slot.capture = none)
    (hr : e.slot.port.waitingRead = none) (hw : s.withheld ≠ some i) :
    (s.did i e).beginFence i cause = s.did i { e with
      slot := e.slot.fenceBegun s.now cause, sent := e.sent ++ e.slot.heldStandIns.map .completion } := by
  have hopen : e.slot.trk.openCount ≠ 0 := fun h => ho.elim fun k hk => hk ((openCount_eq_zero _).mp h k)
  unfold State.beginFence
  dsimp only
  rw [State.did_onCu, State.did_announceLeave hw (by exact hr) (by exact hcap), State.did_drainHold (.inl hw)]
  dsimp only
  rw [State.did_addTally, State.did_slot, if_neg, State.did_onCu]
  · simp only [Nat.zero_add]
    rfl
  · rintro (h | h | h)
    · exact hc h
    · exact hg h
    · exact hopen h

theorem State.takeTrigger_of_cons {t : Trigger} {rest : List Trigger} (h : (s.slots[i]).cu.triggers = t :: rest) :
    s.takeTrigger i = if (s.slots[i]).cu.st = .active ∧ t.period = (s.slots[i]).cu.period
      then (s.onCu i fun c => { c with triggers := rest }).beginFence i t.cause
      else s.onCu i fun c => { c with triggers := rest } := by
  unfold State.takeTrigger
  dsimp only
  rw [h]

/-- Settles O40: a trigger of another period is discarded, and one of this period begins the fence. -/
theorem fenceTriggerTaken : Obligations.FenceTriggerTaken := by
  intro i s sl run
  refine ⟨fun h => ?none, fun tr ht hout => ?discarded, fun tr ht hst hper hc hg ho hcap hr hw => ?begun⟩
  case none =>
    refine event_next_self (s := s) (f := fun s => s.takeTrigger i) ?_
    unfold State.takeTrigger
    dsimp only
    rw [show (s.slots[i]).cu.triggers = [] from h]
  all_goals
    obtain ⟨rest, hrest⟩ := List.head?_eq_some_iff.mp ht
    have htail : sl.cu.triggers.tail = rest := by rw [hrest, List.tail_cons]
    have htaken := State.takeTrigger_of_cons (s := s) hrest
  case discarded =>
    rw [if_neg (by rw [not_and_or]; exact hout)] at htaken
    rw [htail]
    exact event_next_of_kept (f := fun s => s.takeTrigger i) htaken rfl rfl
  case begun =>
    intro cs
    rw [if_pos ⟨hst, hper⟩, show s.onCu i _ = s.onSlot i _ from rfl, State.onSlot_eq_did,
      State.did_beginFence hc hg ho hcap hr hw] at htaken
    rw [htail]
    exact event_did (f := fun s => s.takeTrigger i) htaken

/-! ### The closure of a fence (R71 to R73) -/

/-- R71, R72: a slot that has reached FENCED, FENCE_COMPLETE being the n-th incident, with its follow-up still to be taken. -/
def Slot.fenceReached (sl : Slot) (s : State) (n : Nat) : Slot :=
  { sl.fenceClosed s n with
    cu := { (sl.fenceClosed s n).cu with followUp := sl.cu.followUp, grace := sl.cu.grace },
    trk := sl.trk }

theorem State.did_reachFenced : (s.did i e).reachFenced i = s.did i { e with
    slot := e.slot.fenceReached s (e.filed + 1), attn := e.attn ||| fenceClosedMask i e.slot, filed := e.filed + 1 } := by
  unfold State.reachFenced
  dsimp only
  rw [State.did_slot, State.did_setSlotState, State.did_fileIncident (phase := .none), State.did_raise,
    State.did_endOrderOf]
  · unfold fenceClosedMask
    simp only [BitVec.or_assoc]
    rfl
  · exact State.did_phaseOf (by simp)

/-- R40, R72: a slot whose OPEN entries have been settled and counted in its fence tally. -/
def Slot.tallied (sl : Slot) : Slot :=
  { sl.emptied with
    cu := { sl.cu with
      tally := { sl.cu.tally with
        completions := sl.cu.tally.completions + sl.owedStandIns.length,
        requests := sl.cu.tally.requests + sl.owedRequests },
      grace := none },
    trk := { sl.emptied.trk with waiting := none } }

/-- R71: the closure of a fence, up to its follow-up. -/
theorem State.did_closeFence (hst : e.slot.cu.st ≠ .active) (hl : e.slot.AgeListed) :
    (s.did i e).closeFence i = (s.did i { e with
      slot := e.slot.tallied.fenceReached s (e.filed + 1), attn := e.attn ||| fenceClosedMask i e.slot,
      filed := e.filed + 1, sent := e.sent ++ e.slot.owedStandIns.map .completion }).applyFollowUp i := by
  unfold State.closeFence
  dsimp only
  rw [State.did_onCu, State.closeAll_did]
  · dsimp only
    rw [State.did_addTally, State.did_reachFenced]
    rfl
  · exact hst
  · exact ⟨hl.nodup, hl.lists⟩

/-- R73: a fence that nothing follows. -/
theorem State.did_applyFollowUp_of_staysFenced (h : e.slot.StaysFenced) : (s.did i e).applyFollowUp i =
    s.did i { e with slot := { e.slot with cu := { e.slot.cu with followUp := .none } } } := by
  obtain ⟨hf, ha⟩ := h
  unfold State.applyFollowUp
  dsimp only
  rw [State.did_slot, State.did_onCu, hf]
  dsimp only
  rw [if_neg fun h => ha.elim (fun hauto => h.1 hauto) h.2]

/-- R70, R71: the closure of a fence that nothing follows, where no entry is OPEN. -/
theorem State.did_closeFence_of_free (hfree : ∀ k : Fin 32, (e.slot.trk.ort[k]).body = none) (h : e.slot.StaysFenced) :
    (s.did i e).closeFence i = s.did i { e with
      slot := e.slot.fenceClosed s (e.filed + 1), attn := e.attn ||| fenceClosedMask i e.slot,
      filed := e.filed + 1 } := by
  unfold State.closeFence
  dsimp only
  rw [State.did_onCu, State.closeAll_of_quiet]
  · dsimp only
    rw [State.did_onTracker, State.did_addTally, State.did_reachFenced, State.did_applyFollowUp_of_staysFenced]
    · rfl
    · exact h
  · rw [State.did_slot]
    exact hfree

end

end Sys2Proof.Machine

/-! PROOF. A slot joins the Recovery Queue (R113, R115, R116, R118), and the end of a fence's grace (R40, R70 to R74, R77). -/

namespace Sys2Proof.Machine

open Sys2Proof

section
variable {s : State} {i : SlotId} {e : Effect} {level : Level}

/-! ### Joining the Recovery Queue (R113) -/

/-- R113: the Recovery Queue entry of a slot that joins now. -/
def joinEntry (now : Tick) (level : Level) : QueueEntry := { level := level, attempt := 1, earliest := now, eligible := true }

/-- R113: what an event has done once slot `i` has joined the Recovery Queue. -/
def Effect.joining (e : Effect) (s : State) (i : SlotId) (level : Level) : Effect :=
  { e with
    slot := e.slot.joined, queue := e.queue.set i (some (joinEntry s.now level)),
    attn := e.attn ||| attentionMask i .stateChange }

theorem State.did_joinQueue : (s.did i e).joinQueue i level = (s.did i (e.joining s i level)).arbitrate := by
  unfold State.joinQueue
  rw [State.did_setSlotState, State.did_setAttempt, State.did_setQueue, State.did_raise]
  rfl

theorem Effect.joining_queue (k : SlotId) : (e.joining s i level).queue[k] =
    if k = i then some (joinEntry s.now level) else e.queue[k] :=
  getElem_set_fin _ _ _ _

/-- R115: where the other entries of a level wait, the joining slot's is the only eligible one of that level. -/
theorem State.did_lowestEligible {l : Level} (hi : e.queue[i] = some (joinEntry s.now level))
    (ho : ∀ k : SlotId, k ≠ i → ∀ q, e.queue[k] = some q →
      q.level ≠ l ∨ (q.eligible = false ∧ reached s.now q.earliest = false)) :
    (s.did i e).lowestEligible l = if level = l then some i else none := by
  have hnow : (s.did i e).now = s.now := rfl
  have hown : (s.did i e).eligibleAt l i = (level == l) := by
    unfold State.eligibleAt
    rw [show (s.did i e).queue[i] = _ from hi]
    simp [joinEntry, QueueEntry.isEligible]
  have hother : ∀ k : SlotId, k ≠ i → (s.did i e).eligibleAt l k = false := by
    intro k hk
    unfold State.eligibleAt
    cases hget : e.queue[k] with
    | none => rw [show (s.did i e).queue[k] = _ from hget, Option.any_none]
    | some q =>
      rw [show (s.did i e).queue[k] = _ from hget, Option.any_some]
      rcases ho k hk q hget with h | ⟨h1, h2⟩
      · rw [beq_eq_false_iff_ne.mpr h, Bool.false_and]
      · rw [QueueEntry.isEligible, hnow, h1, h2, Bool.or_false, Bool.and_false]
  unfold State.lowestEligible
  split
  · next h =>
    rw [find_finRange_eq_some]
    exact ⟨by rw [hown, h]; exact beq_self_eq_true l, fun j hj => hother j (ne_of_lt hj)⟩
  · next h =>
    rw [find_finRange_eq_none]
    intro k
    by_cases hk : k = i
    · rw [hk, hown]
      exact beq_eq_false_iff_ne.mpr h
    · exact hother k hk

/-- R115, R118: the grant of the slot's entry. -/
theorem State.did_grant {q : QueueEntry} (h : e.queue[i] = some q) : (s.did i e).grant i = s.did i { e with
    slot := e.slot.asserted, attn := e.attn ||| attentionMask i .stateChange, queue := e.queue.set i none,
    plan := some (planGranted s.now i q.level q.attempt
      (min (e.slot.inForce.holdMs.toNat * 2 ^ (q.attempt - 1)) 1000)) } := by
  rw [State.grant_eq _ i q h, State.did_slot]
  simp [State.did]

/-- R115: an idle sequencer grants the joining slot's entry where the others wait. -/
theorem State.did_grantIfIdle_of_idle (hp : e.plan = none) (hi : e.queue[i] = some (joinEntry s.now level))
    (ho : ∀ k : SlotId, k ≠ i → ∀ q, e.queue[k] = some q →
      (level = .urgent ∧ q.level = .routine) ∨ (q.eligible = false ∧ reached s.now q.earliest = false)) :
    (s.did i e).grantIfIdle = (s.did i e).grant i := by
  have hu : (s.did i e).lowestEligible .urgent = if level = .urgent then some i else none :=
    State.did_lowestEligible hi fun k hk q hq => (ho k hk q hq).imp_left fun h => by rw [h.2]; decide
  have hchosen : (s.did i e).chosen = some i := by
    unfold State.chosen
    rw [hu]
    cases level with
    | urgent => rfl
    | routine =>
      have hr : (s.did i e).lowestEligible .routine = if Level.routine = .routine then some i else none :=
        State.did_lowestEligible hi fun k hk q hq => .inr ((ho k hk q hq).resolve_left fun h => by cases h.1)
      exact hr
  unfold State.grantIfIdle
  rw [hchosen, show (s.did i e).plan = none from hp]
  rfl

/-! ### The set-aside (R116) -/

theorem State.did_onSlot_of_ne {j : SlotId} (h : j ≠ i) (f : Slot → Slot) :
    (s.did i e).onSlot j f = (s.onSlot j f).did i e := by
  unfold State.onSlot
  rw [State.did_slot_of_ne _ _ _ h]
  simp only [State.did]
  rw [Vector.set_comm _ _ (fun hval => h (Fin.ext hval.symm))]

/-- R116: the slot of a plan that has been set aside. -/
def Slot.planSetAside (sl : Slot) : Slot :=
  { sl.asserted with setAside := if sl.setAside = 0xFFFF then 0xFFFF else sl.setAside + 1 }

/-- R116: the entry of the slot of a plan that has been set aside. -/
def backEntry (now : Tick) (p : Plan) : QueueEntry :=
  { level := .routine, attempt := p.attempt, earliest := now, eligible := true }

theorem satInc_setAside (sl : Slot) :
    satInc sl.asserted.setAside = if sl.setAside = 0xFFFF then 0xFFFF else sl.setAside + 1 := by
  rw [Slot.asserted_eq]
  unfold satInc
  have hones : BitVec.allOnes 16 = (0xFFFF : BitVec 16) := by decide
  rw [hones]
  split
  · assumption
  · rfl

theorem State.did_setAside {p : Plan} (hp : e.plan = some p) (hl : p.level = .routine)
    (hph : p.phase = .resetHold ∨ p.phase = .training) (hstop : p.stop = false) (hi : p.slot ≠ i)
    (hu : (s.did i e).lowestEligible .urgent ≠ none) :
    (s.did i e).setAside = (s.onSlot p.slot Slot.planSetAside).did i { e with
      plan := none, queue := e.queue.set p.slot (some (backEntry s.now p)) } := by
  have hmust : (s.did i e).mustSetAside p = true := by
    unfold State.mustSetAside
    rw [hl, Option.isSome_iff_ne_none.mpr hu]
    rcases hph with h | h <;> rw [h] <;> rfl
  unfold State.setAside
  rw [show (s.did i e).plan = some p from hp]
  dsimp only
  rw [if_pos hmust, hstop, if_neg Bool.false_ne_true, State.assertLine_eq, State.did_onSlot_of_ne hi]
  change ((s.onSlot p.slot Slot.asserted).did i { e with
    plan := none, queue := e.queue.set p.slot (some (backEntry s.now p)) }).onSlot p.slot _ = _
  rw [State.did_onSlot_of_ne hi, State.onSlot_onSlot]
  simp only [satInc_setAside]
  rfl

/-- R118: hold(1). -/
theorem hold_of_first_attempt (now : Tick) (holdMs : Byte) :
    min (holdMs.toNat * 2 ^ ((joinEntry now level).attempt - 1)) 1000 = min holdMs.toNat 1000 := by
  rw [show (joinEntry now level).attempt - 1 = 0 from rfl, Nat.pow_zero, Nat.mul_one]

/-! ### What follows a joining (R115, R116) -/

theorem Effect.joining_queue_self : (e.joining s i level).queue[i] = some (joinEntry s.now level) := by
  rw [Effect.joining_queue, if_pos rfl]

theorem OthersWait.joining (ho : OthersWait s i) (hq : e.queue = s.queue) (k : SlotId) (hk : k ≠ i) (q : QueueEntry)
    (hget : (e.joining s i level).queue[k] = some q) : q.eligible = false ∧ reached s.now q.earliest = false := by
  rw [Effect.joining_queue, if_neg hk, hq] at hget
  exact ho k hk q hget

/-- The joining slot waits while a plan runs that it cannot set aside. -/
theorem State.did_arbitrate_waits (hp : e.plan = s.plan) (hq : e.queue = s.queue)
    (h : PlanRunsOn s ∨ (level = .routine ∧ OthersWait s i ∧ s.plan ≠ none)) :
    (s.did i (e.joining s i level)).arbitrate = s.did i (e.joining s i level) := by
  have hplan : (s.did i (e.joining s i level)).plan = s.plan := hp
  rcases h with ⟨p, h1, h2⟩ | ⟨rfl, ho, h⟩
  · exact State.arbitrate_of_planRunsOn _ ⟨p, hplan.trans h1, h2⟩
  · obtain ⟨p, h⟩ := Option.ne_none_iff_exists'.mp h
    have hu := State.did_lowestEligible (l := .urgent) Effect.joining_queue_self
      fun k hk q hget => .inr (OthersWait.joining (level := .routine) ho hq k hk q hget)
    unfold State.arbitrate State.setAside State.mustSetAside
    rw [hplan, h]
    dsimp only
    rw [hu, if_neg (by decide : ¬ Level.routine = .urgent), Option.isSome_none, Bool.and_false, if_neg Bool.false_ne_true]
    exact State.grantIfIdle_of_plan _ p (hplan.trans h)

/-- An idle sequencer grants the joining slot's entry. -/
theorem State.did_arbitrate_granted (hp : e.plan = none) (hq : e.queue = s.queue)
    (hattn : e.attn ||| attentionMask i .stateChange = e.attn) (ho : OthersWait s i) :
    (s.did i (e.joining s i level)).arbitrate = s.did i { e.joining s i level with
      slot := e.slot.joined.asserted, attn := e.attn, queue := s.queue.set i none,
      plan := some (planGranted s.now i level 1 (min e.slot.inForce.holdMs.toNat 1000)) } := by
  have hplan : (e.joining s i level).plan = none := hp
  unfold State.arbitrate State.setAside
  rw [show (s.did i (e.joining s i level)).plan = none from hp]
  dsimp only
  rw [State.did_grantIfIdle_of_idle hplan Effect.joining_queue_self fun k hk q hget => .inr (ho.joining hq k hk q hget),
    State.did_grant Effect.joining_queue_self, hold_of_first_attempt]
  refine congrArg _ (Effect.ext rfl ?_ rfl rfl rfl ?_ rfl)
  · exact (congrArg (· ||| _) hattn).trans hattn
  · simp only [Effect.joining, hq, Vector.set_set]

/-- At URGENT the joining slot sets a ROUTINE plan in RESET_HOLD or TRAINING aside, and is granted. -/
theorem State.did_arbitrate_setsAside {p : Plan} (hp : e.plan = some p) (hq : e.queue = s.queue)
    (hattn : e.attn ||| attentionMask i .stateChange = e.attn) (ho : OthersWait s i) (hl : p.level = .routine)
    (hph : p.phase = .resetHold ∨ p.phase = .training) (hstop : p.stop = false) (hi : p.slot ≠ i) :
    (s.did i (e.joining s i .urgent)).arbitrate = (s.onSlot p.slot Slot.planSetAside).did i { e.joining s i .urgent with
      slot := e.slot.joined.asserted, attn := e.attn,
      queue := (s.queue.set p.slot (some (backEntry s.now p))).set i none,
      plan := some (planGranted s.now i .urgent 1 (min (e.slot.inForce.holdMs.toNat * 2 ^ (1 - 1)) 1000)) } := by
  have hplan : (e.joining s i .urgent).plan = some p := hp
  have hu := State.did_lowestEligible (l := .urgent) Effect.joining_queue_self
    fun k hk q hget => .inr (OthersWait.joining (level := .urgent) ho hq k hk q hget)
  have hget : ∀ k : SlotId, ((e.joining s i .urgent).queue.set p.slot (some (backEntry s.now p)))[k] =
      if k = p.slot then some (backEntry s.now p) else (e.joining s i .urgent).queue[k] :=
    fun k => getElem_set_fin _ _ _ _
  have hown := (hget i).trans ((if_neg hi.symm).trans Effect.joining_queue_self)
  unfold State.arbitrate
  rw [State.did_setAside hplan hl hph hstop hi (by rw [hu]; simp),
    State.did_grantIfIdle_of_idle (level := .urgent) rfl hown, State.did_grant hown]
  · refine congrArg _ (Effect.ext rfl ?_ rfl rfl rfl ?_ rfl)
    · exact (congrArg (· ||| _) hattn).trans hattn
    · simp only [Effect.joining, hq]
      rw [Vector.set_comm _ _ (fun hval => hi (Fin.ext hval.symm)), Vector.set_set,
        Vector.set_comm _ _ (fun hval => hi (Fin.ext hval))]
  · intro k hk q hkq
    have hkq := (hget k).symm.trans hkq
    split at hkq
    · cases hkq
      exact .inl ⟨rfl, rfl⟩
    · exact .inr (ho.joining hq k hk q hkq)

/-- R113: the outcome of an event that ends with slot `i` joining the Recovery Queue, where STATE_CHANGE stands already. -/
theorem joins_of_did {f : State → State} (hf : f s = (s.did i e).joinQueue i level) (hp : e.plan = s.plan)
    (hq : e.queue = s.queue) (hfree : e.free = s.freeIndex)
    (hattn : e.attn ||| attentionMask i .stateChange = e.attn) :
    Joins s i e.slot level e.attn e.filed e.sent (event f s) := by
  have hjoin : f s = (s.did i (e.joining s i level)).arbitrate := hf.trans State.did_joinQueue
  refine ⟨fun h => ?waits, fun hidle ho => ?granted, fun p hplan hlevel ho hl hph hstop hi => ?setsAside⟩
  case waits =>
    rw [event_did (hjoin.trans (State.did_arbitrate_waits hp hq h))]
    simp only [Effect.joining, hp, hq, hfree, hattn]
    rfl
  case granted =>
    rw [event_did (hjoin.trans (State.did_arbitrate_granted (hp.trans hidle) hq hattn ho))]
    simp only [Effect.joining, hfree]
    rfl
  case setsAside =>
    subst hlevel
    refine (event_next (hjoin.trans (State.did_arbitrate_setsAside (hp.trans hplan) hq hattn ho hl hph hstop hi))).trans ?_
    simp only [Effect.joining, hfree]
    rfl

end

end Sys2Proof.Machine

/-! PROOF. The end of a fence's grace, with the follow-up of the fence (R40, R70 to R74, R77, R113). -/

namespace Sys2Proof.Machine

open Sys2Proof

section
variable {s : State} {i : SlotId} {e : Effect}

/-! ### The follow-ups of a fence (R73) -/

theorem State.did_applyFollowUp_of_retire (h : e.slot.cu.followUp = .retire) : (s.did i e).applyFollowUp i =
    (s.did i { e with slot := { e.slot with cu := { e.slot.cu with followUp := .none } } }).retireByOrder i
      e.slot.takenState := by
  unfold State.applyFollowUp
  dsimp only
  rw [State.did_slot, State.did_onCu, h]

theorem State.did_applyFollowUp_of_recover {level : Level} (h : e.slot.cu.followUp = .recover level) :
    (s.did i e).applyFollowUp i =
      (s.did i { e with slot := { e.slot with cu := { e.slot.cu with followUp := .none } } }).joinQueue i level := by
  unfold State.applyFollowUp
  dsimp only
  rw [State.did_slot, State.did_onCu, h]

theorem State.did_applyFollowUp_of_autoRecover (h : e.slot.cu.followUp = .none) (ha : e.slot.inForce.autoRecover ≠ 0)
    (hc : e.slot.cu.cause ≠ .order) : (s.did i e).applyFollowUp i =
      (s.did i { e with slot := { e.slot with cu := { e.slot.cu with followUp := .none } } }).joinQueue i
        (levelOf e.slot.inForce.priority) := by
  unfold State.applyFollowUp
  dsimp only
  rw [State.did_slot, State.did_onCu, h]
  dsimp only
  rw [if_pos ⟨ha, hc⟩]

/-! ### The closure -/

/-- R40, R70 to R72: a slot whose grace has ended, up to its follow-up. -/
def Slot.graceEnded (sl : Slot) (s : State) : Slot :=
  ({ sl with
    cu := { sl.cu with tally := {
      start := sl.cu.tally.start, completions := sl.cu.tally.completions + sl.owedStandIns.length,
      requests := sl.cu.tally.requests + sl.owedRequests } },
    trk := { sl.trk with ort := sl.ortFreed, age := [] },
    ctr := { sl.ctr with standinsIssued := satAdd sl.ctr.standinsIssued sl.owedStandIns.length } } : Slot).fenceClosed s 1

/-- That slot with the follow-up `f` still to be taken. -/
def Slot.graceEndedWith (sl : Slot) (s : State) (f : FollowUp) : Slot :=
  { sl.graceEnded s with cu := { (sl.graceEnded s).cu with followUp := f } }

/-- What an event has done in which the grace ends and that leaves the slot at `x`. -/
def graceEnded (s : State) (i : SlotId) (x : Slot) : Effect :=
  { Effect.none s i with
    slot := x, attn := s.attn ||| fenceClosedMask i s.slots[i], filed := 1,
    sent := (s.slots[i]).owedStandIns.map .completion }

/-- R73: the taking of the follow-up resets it. -/
theorem graceEnded_followUp_taken (f : FollowUp) :
    { graceEnded s i ((s.slots[i]).graceEndedWith s f) with
      slot := { (s.slots[i]).graceEndedWith s f with
        cu := { ((s.slots[i]).graceEndedWith s f).cu with followUp := .none } } } =
      graceEnded s i ((s.slots[i]).graceEnded s) := rfl

theorem State.graceExpiry_eq (hst : (s.slots[i]).cu.st = .fencing) (hg : (s.slots[i]).cu.grace.any (reached s.now) = true)
    (hw : (s.slots[i]).trk.watch = .idle) (hl : (s.slots[i]).AgeListed) :
    (if s.graceDue i then s.closeFence i else s) =
      (s.did i (graceEnded s i ((s.slots[i]).graceEndedWith s (s.slots[i]).cu.followUp))).applyFollowUp i := by
  have hdue : s.graceDue i = true := by
    unfold State.graceDue due
    rw [hst, hg]
    rfl
  have hslot : (s.slots[i]).tallied.fenceReached s 1 = (s.slots[i]).graceEndedWith s (s.slots[i]).cu.followUp := by
    have hwatch : (if (s.slots[i]).trk.age = [] then (s.slots[i]).trk.watch else .idle) = (s.slots[i]).trk.watch := by
      rw [hw, ite_self]
    unfold Slot.tallied Slot.emptied
    rw [hwatch]
    rfl
  rw [if_pos hdue]
  refine (congrArg (·.closeFence i) (s.did_none i).symm).trans ?_
  rw [State.did_closeFence (e := Effect.none s i) (by rw [show (Effect.none s i).slot.cu.st = _ from hst]; decide) hl]
  change (s.did i { Effect.none s i with
    slot := (s.slots[i]).tallied.fenceReached s 1, attn := s.attn ||| fenceClosedMask i s.slots[i], filed := 1,
    sent := (s.slots[i]).owedStandIns.map .completion }).applyFollowUp i = _
  rw [hslot]
  rfl

theorem Slot.graceEnded_quiet {sl : Slot} (hh : sl.trk.hold = []) : (sl.graceEnded s).Quiet := by
  have htrk : (sl.graceEnded s).trk = { sl.trk with ort := sl.ortFreed, age := [], waiting := none } := rfl
  unfold Slot.Quiet
  rw [htrk]
  refine ⟨fun k => ?_, rfl, hh, rfl⟩
  dsimp only
  rw [getElem_ortFreed]
  split
  · assumption
  · rfl

/-- R156: the end of a fence leaves a RETIRE order in progress. -/
theorem Slot.graceEnded_ou {sl : Slot} {o : OrderInProgress} (ho : sl.ou.order = some o) (hc : o.code = 6) :
    (sl.graceEnded s).ou = sl.ou := by
  have hended : (sl.graceEnded s).ou = sl.ouEnding s.now 3 .done (.cause sl.cu.cause)
      (BitVec.ofNat 32 (sl.cu.tally.completions + sl.owedStandIns.length))
      (BitVec.ofNat 32 (sl.cu.tally.requests + sl.owedRequests)) (s.now - sl.cu.tally.start) := rfl
  rw [hended, Slot.ouEnding, Slot.orderOfCode, ho, Option.filter_some, hc]
  rfl

theorem Slot.graceEnded_orderOfCode {sl : Slot} {o : OrderInProgress} (ho : sl.ou.order = some o) (hc : o.code = 6) :
    (sl.graceEnded s).orderOfCode 6 = some o := by
  rw [Slot.orderOfCode, Slot.graceEnded_ou ho hc, ho, Option.filter_some, hc]
  rfl

/-- R77: a slot whose fence is followed by the RETIRE order `o`. -/
theorem Slot.retiredByOrder_graceEnded {sl : Slot} {o : OrderInProgress} (ho : sl.ou.order = some o) (hc : o.code = 6) :
    (sl.graceEnded s).retiredByOrder s 2 o.taken = { (sl.graceEnded s).asserted with
      cu := { (sl.graceEnded s).cu with st := .retired },
      inc := (sl.graceEnded s).inc.file (incidentAt s 2 .retired .retired .none (sl.graceEnded s).asserted.port.epoch
        sl.attempt (.cause .order) (some (o.taken.code.setWidth 32)) none none),
      ou := (sl.graceEnded s).ou.ended s.now o .done .none (o.taken.code.setWidth 32) 0 0 } := by
  unfold Slot.retiredByOrder Slot.ouEnding
  rw [Slot.graceEnded_orderOfCode ho hc]
  rfl

theorem or_of_raised_again {w : Nat} (a m n d r : BitVec w) : a ||| (m ||| n ||| d) ||| m ||| n ||| r = a ||| (m ||| n ||| d) ||| r := by
  apply BitVec.eq_of_getLsbD_eq
  intro j hj
  simp only [BitVec.getLsbD_or]
  cases m.getLsbD j <;> cases n.getLsbD j <;> simp

theorem fenceClosedMask_or_stateChange (a : BitVec 24) (sl : Slot) :
    a ||| fenceClosedMask i sl ||| attentionMask i .stateChange = a ||| fenceClosedMask i sl := by
  unfold fenceClosedMask
  apply BitVec.eq_of_getLsbD_eq
  intro j hj
  simp only [BitVec.getLsbD_or]
  cases (attentionMask i .stateChange).getLsbD j <;> simp

/-- Settles O41: the closure leaves the slot FENCED, and its follow-up is taken from there. -/
theorem graceEnds : Obligations.GraceEnds := by
  intro i s sl run cs settled emptied closed attn sent hnodup hlists hst hg hw
  have hrun := State.graceExpiry_eq (s := s) hst hg hw ⟨hnodup, hlists⟩
  refine ⟨fun h => ?stays, fun o ho hf hc hh => ?retires, fun level hf => ?recovers, fun hf ha hcause => ?autoRecovers⟩
  case stays =>
    exact event_did (f := fun s => if s.graceDue i then s.closeFence i else s)
      (hrun.trans (State.did_applyFollowUp_of_staysFenced h))
  case retires =>
    intro a st
    have hfenced : (sl.graceEnded s).cu.st ≠ .active := by
      rw [show (sl.graceEnded s).cu.st = .fenced from rfl]
      decide
    have htaken : (sl.graceEndedWith s sl.cu.followUp).takenState = o.taken := by
      have hou : (sl.graceEndedWith s sl.cu.followUp).ou = sl.ou := Slot.graceEnded_ou ho hc
      rw [Slot.takenState, hou, ho]
      rfl
    have hretired := State.did_applyFollowUp_of_retire (s := s) (i := i)
      (e := graceEnded s i (sl.graceEndedWith s sl.cu.followUp)) hf
    rw [show (graceEnded s i (sl.graceEndedWith s sl.cu.followUp)).slot.takenState = _ from htaken] at hretired
    have hclosed := hrun.trans (hretired.trans
      (congrArg (fun e => (s.did i e).retireByOrder i o.taken) (graceEnded_followUp_taken sl.cu.followUp)))
    rw [State.did_retireByOrder (e := graceEnded s i (sl.graceEnded s)) (Slot.graceEnded_quiet hh) hfenced] at hclosed
    have hslot := Slot.retiredByOrder_graceEnded (s := s) ho hc
    have hattn : s.attn ||| fenceClosedMask i sl ||| attentionMask i .incident ||| attentionMask i .stateChange |||
        doneMask i (sl.graceEnded s) 6 = attn ||| attentionMask i .orderDone := by
      unfold doneMask
      rw [Slot.graceEnded_orderOfCode ho hc]
      exact or_of_raised_again _ _ _ _ _
    refine (event_did (f := fun s => if s.graceDue i then s.closeFence i else s) hclosed).trans ?_
    dsimp only [graceEnded]
    rw [hslot, hattn]
    rfl
  case recovers =>
    exact joins_of_did (f := fun s => if s.graceDue i then s.closeFence i else s) (e := graceEnded s i (sl.graceEnded s))
      (hrun.trans (State.did_applyFollowUp_of_recover hf)) rfl rfl rfl (fenceClosedMask_or_stateChange _ _)
  case autoRecovers =>
    exact joins_of_did (f := fun s => if s.graceDue i then s.closeFence i else s) (e := graceEnded s i (sl.graceEnded s))
      (hrun.trans (State.did_applyFollowUp_of_autoRecover hf ha hcause)) rfl rfl rfl (fenceClosedMask_or_stateChange _ _)

end

end Sys2Proof.Machine

/-! PROOF. The expiry of an OPEN host entry (R26, R27, R48, R51 to R53, R69, R70). -/

namespace Sys2Proof.Machine

open Sys2Proof

section
variable {s : State} {i : SlotId} {e : Effect} {k : Fin 32} {b : OrtBody}

/-! ### The handing on of a freed entry (R27) -/

theorem withFreed_ort (t : Tracker) (k j : Fin 32) : (t.withFreed k).ort[j] =
    if j = k then { gen := (t.ort[k]).gen + 1, body := none } else t.ort[j] :=
  getElem_set_fin _ _ _ _

theorem withFreed_free {t : Tracker} (h : ∀ j : Fin 32, j ≠ k → (t.ort[j]).body = none) (j : Fin 32) :
    ((t.withFreed k).ort[j]).body = none := by
  rw [withFreed_ort]
  split
  · rfl
  · next hj => exact h j hj

theorem withFreed_open {t : Tracker} (h : ∃ j : Fin 32, j ≠ k ∧ (t.ort[j]).body ≠ none) :
    ∃ j : Fin 32, ((t.withFreed k).ort[j]).body ≠ none := by
  obtain ⟨j, hj, hopen⟩ := h
  exact ⟨j, by rw [withFreed_ort, if_neg hj]; exact hopen⟩

/-- R27: a freed entry of an ACTIVE slot is handed on to the waiting controller request. -/
theorem State.did_freeEntry_of_waiting {c : ControllerRequest} (hst : e.slot.cu.st = .active)
    (hw : e.slot.trk.waiting = some c) : (s.did i e).freeEntry i k = s.did i { e with
      slot := ({ e.slot with trk := { e.slot.trk.withFreed k with waiting := none } } : Slot).withOpened s.now k
        (controllerOpens s e.slot c)
        (controllerSends s e.slot (downstreamTag ((e.slot.trk.withFreed k).ort[k]).gen k) c) } := by
  have hw' : (e.slot.trk.withFreed k).waiting = some c := hw
  unfold State.freeEntry
  dsimp only
  rw [State.did_freed, State.did_slot, if_pos hst]
  unfold State.handOn
  dsimp only
  rw [State.did_slot]
  dsimp only
  rw [hw']
  dsimp only
  rw [State.did_onTracker, State.did_openController]
  obtain ⟨owner, offset, _ | ⟨data, enables⟩⟩ := c <;> rfl

/-- R27: a freed entry of an ACTIVE slot in which no controller request waits is handed on to the head of the Hold Queue. -/
theorem State.did_freeEntry_of_held {h : HoldItem} {rest : List HoldItem} (hst : e.slot.cu.st = .active)
    (hw : e.slot.trk.waiting = none) (hh : e.slot.trk.hold = h :: rest) (hl : s.withheld ≠ some i) :
    (s.did i e).freeEntry i k = s.did i { e with
      slot := ({ e.slot with trk := { e.slot.trk.withFreed k with hold := rest } } : Slot).withOpened s.now k h.body
        (retag s.mgmt.requesterId (downstreamTag ((e.slot.trk.withFreed k).ort[k]).gen k) h.request) } := by
  have hw' : (e.slot.trk.withFreed k).waiting = none := hw
  have hh' : (e.slot.trk.withFreed k).hold = h :: rest := hh
  unfold State.freeEntry
  dsimp only
  rw [State.did_freed, State.did_slot, if_pos hst]
  unfold State.handOn
  dsimp only
  rw [State.did_slot]
  dsimp only
  rw [hw', hh']
  dsimp only
  rw [State.did_onTracker, State.did_openEntry, State.did_retakeFor hl]
  dsimp only
  rw [hw']

/-! ### The end of the grace on an empty table (R70) -/

theorem State.did_endGraceIfEmpty_of_open (h : ∃ j : Fin 32, (e.slot.trk.ort[j]).body ≠ none) :
    (s.did i e).endGraceIfEmpty i = s.did i e := by
  unfold State.endGraceIfEmpty
  dsimp only
  rw [State.did_slot, if_neg]
  rintro ⟨-, -, hzero⟩
  obtain ⟨j, hj⟩ := h
  exact hj ((openCount_eq_zero _).mp hzero j)

theorem State.did_endGraceIfEmpty_of_free (hst : e.slot.cu.st = .fencing) (hg : e.slot.cu.grace ≠ none)
    (hfree : ∀ j : Fin 32, (e.slot.trk.ort[j]).body = none) (hs : e.slot.StaysFenced) :
    (s.did i e).endGraceIfEmpty i = s.did i { e with
      slot := e.slot.fenceClosed s (e.filed + 1), attn := e.attn ||| fenceClosedMask i e.slot,
      filed := e.filed + 1 } := by
  unfold State.endGraceIfEmpty
  dsimp only
  rw [State.did_slot, if_pos ⟨hst, Option.isSome_iff_ne_none.mpr hg, (openCount_eq_zero _).mpr hfree⟩,
    State.did_closeFence_of_free hfree hs]

/-! ### What an expiry reports and brings about (R51, R52) -/

theorem State.did_reportExpiry (hst : e.slot.cu.st ≠ .recovering) (reason : Reason) (index : Nat) (b : OrtBody) :
    (s.did i e).reportExpiry i reason index b = s.did i { e with
      slot := { e.slot with
        ctr := { e.slot.ctr with timeouts :=
          if e.slot.ctr.timeouts = 0xFFFFFFFF then e.slot.ctr.timeouts else e.slot.ctr.timeouts + 1 },
        inc := e.slot.inc.file (incidentAt s (e.filed + 1) .requestTimeout e.slot.cu.st .none e.slot.port.epoch
          e.slot.attempt reason (some (BitVec.ofNat 32 index)) (some (BitVec.ofNat 32 b.bytesOwed))
          (some (b.deadline - b.arrival))) },
      attn := e.attn ||| attentionMask i .incident, filed := e.filed + 1 } := by
  unfold State.reportExpiry
  rw [State.did_countTimeout, State.did_fileIncident (phase := .none)]
  · rfl
  · exact State.did_phaseOf (by exact hst)

theorem State.did_applyTimeoutAction : (s.did i e).applyTimeoutAction i =
    if e.slot.inForce.timeoutAction = 0 then (s.did i e).reportTrigger i .timeout
    else if e.slot.inForce.timeoutTolerance.toNat ≤ min 15 (e.slot.trk.answered + 1) then
      (s.did i { e with slot := { e.slot with
        trk := { e.slot.trk with answered := min 15 (e.slot.trk.answered + 1) } } }).reportTrigger i .timeout
    else s.did i { e with slot := { e.slot with
      trk := { e.slot.trk with answered := min 15 (e.slot.trk.answered + 1) } } } := by
  unfold State.applyTimeoutAction
  dsimp only
  rw [State.did_slot, State.did_onTracker]
  rfl

/-! ### The expiry of a host entry (R48) -/

theorem State.expiredUpstream_of_free (h : ((s.slots[i]).trk.ort[k]).body = none) : s.expiredUpstream i k = none := by
  rw [State.expiredUpstream, h, Option.filter_none]

theorem State.expiredUpstream_of_open (h : ((s.slots[i]).trk.ort[k]).body = some b) (ho : b.origin.isUpstream = true) :
    s.expiredUpstream i k = if reached s.now b.deadline = true then some b else none := by
  rw [State.expiredUpstream, h, Option.filter_some, ho, Bool.true_and]

theorem exec_deadlineExpiry_of_none (h : s.expiredUpstream i k = none) : exec (.deadlineExpiry i k) s = .next s := by
  refine event_next_self (s := s) (f := fun s => match s.expiredUpstream i k with
    | some b => s.expireEntry i k b
    | none => s) ?_
  rw [h]

theorem exec_deadlineExpiry_of_expired (h : s.expiredUpstream i k = some b) (he : s.expireEntry i k b = s.did i e) :
    exec (.deadlineExpiry i k) s = .next { slotAfter s i e.slot e.attn e.filed e.sent with
      plan := e.plan, queue := e.queue, freeIndex := e.free } := by
  refine event_did (f := fun s => match s.expiredUpstream i k with
    | some b => s.expireEntry i k b
    | none => s) ?_
  rw [h]
  exact he

/-- What an expiry has done once the stand-ins for the bytes owed have been sent. -/
def expiryAnswered (s : State) (i : SlotId) (b : OrtBody) : Effect :=
  { Effect.none s i with
    slot := { s.slots[i] with ctr := { (s.slots[i]).ctr with
      standinsIssued := satAdd (s.slots[i]).ctr.standinsIssued
        (b.standIns (s.slots[i]).inForce.standinMode).length } },
    sent := (b.standIns (s.slots[i]).inForce.standinMode).map .completion }

theorem State.sendStandIns_of_expired (s : State) (i : SlotId) (b : OrtBody) :
    s.sendStandIns i (b.standIns (s.slots[i]).inForce.standinMode) = s.did i (expiryAnswered s i b) :=
  calc s.sendStandIns i (b.standIns (s.slots[i]).inForce.standinMode)
      = (s.did i (Effect.none s i)).sendStandIns i (b.standIns (s.slots[i]).inForce.standinMode) := by rw [State.did_none]
    _ = s.did i (expiryAnswered s i b) := by rw [State.did_sendStandIns]; rfl

/-- R51: the slot `x`, into which the expiry of entry `k` of slot `sl` has made it, once the expiry has been reported. -/
def Slot.expiryReported (sl : Slot) (s : State) (k : Fin 32) (b : OrtBody) (x : Slot) : Slot :=
  { x with
    ctr := { sl.ctr with
      standinsIssued := satAdd sl.ctr.standinsIssued (b.standIns sl.inForce.standinMode).length,
      timeouts := if sl.ctr.timeouts = 0xFFFFFFFF then sl.ctr.timeouts else sl.ctr.timeouts + 1 },
    inc := sl.inc.file (incidentAt s 1 .requestTimeout sl.cu.st .none sl.port.epoch sl.attempt .upstream
      (some (BitVec.ofNat 32 k.val)) (some (BitVec.ofNat 32 b.bytesOwed)) (some (b.deadline - b.arrival))) }

/-- What an expiry has done that leaves the slot at `x`. -/
def expiryDone (s : State) (i : SlotId) (b : OrtBody) (x : Slot) : Effect :=
  { expiryAnswered s i b with slot := x, attn := s.attn ||| attentionMask i .incident, filed := 1 }

/-- R48, R51: the expiry of an entry of an ACTIVE slot, which the handing on of the entry leaves at `x`, up to what
follows it. -/
theorem State.expireEntry_of_active {x : Slot} (hst : (s.slots[i]).cu.st = .active)
    (hf : (s.did i (expiryAnswered s i b)).freeEntry i k =
      s.did i { expiryAnswered s i b with slot := { x with ctr := (expiryAnswered s i b).slot.ctr } })
    (hcu : x.cu = (s.slots[i]).cu) (hinc : x.inc = (s.slots[i]).inc) (hep : x.port.epoch = (s.slots[i]).port.epoch)
    (hat : x.attempt = (s.slots[i]).attempt) :
    s.expireEntry i k b =
      (s.did i (expiryDone s i b ((s.slots[i]).expiryReported s k b x))).applyTimeoutAction i := by
  have hsettled : s.settleExpired i k b =
      s.did i { expiryAnswered s i b with slot := { x with ctr := (expiryAnswered s i b).slot.ctr } } := by
    unfold State.settleExpired
    dsimp only
    rw [State.sendStandIns_of_expired, hf, if_neg (by rw [hst]; decide)]
  unfold State.expireEntry
  rw [hsettled, State.did_reportExpiry (by rw [show _ = _ from hcu, hst]; decide), hst]
  refine congrArg (fun e => (s.did i e).applyTimeoutAction i) (Effect.ext ?_ rfl rfl rfl rfl rfl rfl)
  dsimp only [Slot.expiryReported, expiryDone]
  rw [hcu, hinc, hep, hat]
  rfl

/-- R52: a slot in which an expiry has been counted. -/
def Slot.expiryCounted (sl : Slot) : Slot := { sl with trk := { sl.trk with answered := min 15 (sl.trk.answered + 1) } }

/-- R64: a slot in which a trigger with cause TIMEOUT has been reported. -/
def Slot.timeoutTriggered (sl : Slot) : Slot :=
  { sl with cu := { sl.cu with
    triggers := sl.cu.triggers ++ [{ cause := .timeout, period := sl.cu.period }] } }

/-- R52: what follows the expiry of an entry of an ACTIVE slot, by timeout_action and the tolerance. -/
theorem exec_deadlineExpiry_follows {x : Slot} (hexp : s.expiredUpstream i k = some b)
    (hst : (s.slots[i]).cu.st = .active)
    (hf : (s.did i (expiryAnswered s i b)).freeEntry i k =
      s.did i { expiryAnswered s i b with slot := { x with ctr := (expiryAnswered s i b).slot.ctr } })
    (hcu : x.cu = (s.slots[i]).cu) (hinc : x.inc = (s.slots[i]).inc) (hep : x.port.epoch = (s.slots[i]).port.epoch)
    (hat : x.attempt = (s.slots[i]).attempt) (hin : x.inForce = (s.slots[i]).inForce)
    (hans : x.trk.answered = (s.slots[i]).trk.answered) :
    let y := (s.slots[i]).expiryReported s k b x
    let n := min 15 ((s.slots[i]).trk.answered + 1)
    let after := fun (z : Slot) => (Host.Outcome.next (slotAfter s i z (s.attn ||| attentionMask i .incident) 1
      ((b.standIns (s.slots[i]).inForce.standinMode).map .completion)) : Host.Outcome State Fault Refusal)
    ((s.slots[i]).inForce.timeoutAction = 0 → exec (.deadlineExpiry i k) s = after y.timeoutTriggered) ∧
    ((s.slots[i]).inForce.timeoutAction ≠ 0 → n < (s.slots[i]).inForce.timeoutTolerance.toNat →
      exec (.deadlineExpiry i k) s = after y.expiryCounted) ∧
    ((s.slots[i]).inForce.timeoutAction ≠ 0 → (s.slots[i]).inForce.timeoutTolerance.toNat ≤ n →
      exec (.deadlineExpiry i k) s = after y.expiryCounted.timeoutTriggered) := by
  intro y n after
  have hdone := State.expireEntry_of_active hst hf hcu hinc hep hat
  rw [State.did_applyTimeoutAction, show (expiryDone s i b y).slot.inForce = _ from hin,
    show (expiryDone s i b y).slot.trk.answered = _ from hans, State.did_reportTrigger, State.did_reportTrigger] at hdone
  have hcounted : ({ y with trk := { y.trk with answered := n } } : Slot) = y.expiryCounted := by
    unfold Slot.expiryCounted
    rw [show y.trk.answered = _ from hans]
  refine ⟨fun h => ?triggers, fun h hn => ?counts, fun h hn => ?both⟩
  case triggers =>
    rw [if_pos h] at hdone
    exact exec_deadlineExpiry_of_expired hexp hdone
  case counts =>
    rw [if_neg h, if_neg (by omega)] at hdone
    refine (exec_deadlineExpiry_of_expired hexp hdone).trans ?_
    rw [← hcounted]
    rfl
  case both =>
    rw [if_neg h, if_pos hn] at hdone
    refine (exec_deadlineExpiry_of_expired hexp hdone).trans ?_
    rw [← hcounted]
    rfl

/-- R69, R72: a slot in FENCING, into whose tally an expired entry has been counted. -/
def Slot.expiryTallied (sl : Slot) (s : State) (k : Fin 32) (b : OrtBody) : Slot :=
  { sl.expiryReported s k b { sl with trk := sl.trk.withFreed k } with
    cu := { sl.cu with tally := { sl.cu.tally with
      completions := sl.cu.tally.completions + (b.standIns sl.inForce.standinMode).length,
      requests := sl.cu.tally.requests + 1 } } }

/-- R48, R51, R69: the expiry of an entry of a slot in FENCING, up to the end of the grace. -/
theorem State.expireEntry_of_fencing (hst : (s.slots[i]).cu.st = .fencing) : s.expireEntry i k b =
    (s.did i (expiryDone s i b ((s.slots[i]).expiryTallied s k b))).endGraceIfEmpty i := by
  have hactive : (expiryAnswered s i b).slot.cu.st ≠ .active := by
    rw [show (expiryAnswered s i b).slot.cu.st = .fencing from hst]
    decide
  unfold State.expireEntry State.settleExpired
  dsimp only
  rw [State.sendStandIns_of_expired, State.did_freeEntry fun h => absurd h hactive, if_pos hst, State.did_addTally,
    State.did_reportExpiry, hst]
  · exact congrArg (fun e => (s.did i e).endGraceIfEmpty i) (Effect.ext rfl rfl rfl rfl rfl rfl rfl)
  · exact fun h => absurd (hst.symm.trans h) (by decide)

/-- Settles O42: in ACTIVE the freed entry is handed on and timeout_action follows; in FENCING the last entry ends the
grace. -/
theorem deadlineExpiry : Obligations.DeadlineExpiry := by
  intro i k s sl run
  refine ⟨fun h => exec_deadlineExpiry_of_none (State.expiredUpstream_of_free h), fun b hb ho => ⟨fun hr => ?early, ?_⟩⟩
  case early =>
    refine exec_deadlineExpiry_of_none ?_
    rw [State.expiredUpstream_of_open hb ho, hr, if_neg Bool.false_ne_true]
  intro hr cs n freed tag expired answered triggered after follows
  have hexp : s.expiredUpstream i k = some b := by rw [State.expiredUpstream_of_open hb ho, hr, if_pos rfl]
  refine ⟨fun hst => ⟨fun hw hh => ?idle, fun w hw => ?waiting, fun h rest hw hh hl => ?held⟩, fun hst => ?fencing⟩
  case idle =>
    exact exec_deadlineExpiry_follows hexp hst (State.did_freeEntry fun _ => ⟨hw, hh⟩) rfl rfl rfl rfl rfl rfl
  case waiting =>
    exact exec_deadlineExpiry_follows hexp hst (State.did_freeEntry_of_waiting hst hw) rfl rfl rfl rfl rfl rfl
  case held =>
    exact exec_deadlineExpiry_follows hexp hst (State.did_freeEntry_of_held hst hw hh hl) rfl rfl rfl rfl rfl rfl
  case fencing =>
    intro tallied
    have hdone := State.expireEntry_of_fencing (k := k) (b := b) hst
    refine ⟨fun hopen => ?stays, fun hfree hg hstays => ?ends⟩
    case stays =>
      rw [State.did_endGraceIfEmpty_of_open (by exact withFreed_open hopen)] at hdone
      exact exec_deadlineExpiry_of_expired hexp hdone
    case ends =>
      rw [State.did_endGraceIfEmpty_of_free (by exact hst) (by exact hg) (by exact withFreed_free hfree) (by exact hstays)]
        at hdone
      exact exec_deadlineExpiry_of_expired hexp hdone

end

end Sys2Proof.Machine

/-! PROOF. A card completion that matches an OPEN entry (R28 to R32, R36, R57): the rules of its taking, as effects. -/

namespace Sys2Proof.Machine

open Sys2Proof

/-! ### Tags and bytes -/

/-- R19, R28: a downstream tag names its entry. -/
theorem tagIndex_downstreamTag (gen : BitVec 3) (k : Fin 32) : tagIndex (downstreamTag gen k) = k := by
  have hgen := gen.isLt
  have hk := k.isLt
  have htag : (downstreamTag gen k).toNat = gen.toNat * 32 + k.val := by
    rw [downstreamTag, BitVec.toNat_ofNat]
    exact Nat.mod_eq_of_lt (by omega)
  apply Fin.ext
  show (downstreamTag gen k).toNat % 32 = k.val
  rw [htag]
  omega

theorem length_dwordBytes (ds : List Dword) : (dwordBytes ds).length = 4 * ds.length := by
  unfold dwordBytes
  rw [List.length_flatMap, List.map_congr_left fun d _ => (by simp [leBytes] : (leBytes 4 d).length = 4)]
  simp [Nat.mul_comm]

/-- R4: a completion carries no more bytes than its data hold. -/
theorem bytesCarried_le_length (c : Completion) : bytesCarried c ≤ (carriedStream c).length := by
  unfold bytesCarried carriedStream
  rw [List.length_drop, length_dwordBytes]
  split
  · exact Nat.zero_le _
  · exact Nat.min_le_right _ _

/-- R30: the data of a forwarded completion carry the bytes delivered and the bytes that followed them. -/
theorem carries_alignData (free lead n : Nat) (stream : List Byte) (hn : n ≤ stream.length) :
    Carries (alignData free lead (stream.take n) (stream.drop n)) lead n stream := by
  have hlen : (stream.take n).length = n := by rw [List.length_take, Nat.min_eq_left hn]
  have hrest : lead + n ≤ 4 * ((lead + n + 3) / 4) := by omega
  refine ⟨by rw [length_alignData, hlen, dwordsFor], ?_⟩
  rw [length_alignData, hlen, dwordsFor]
  unfold alignData
  dsimp only
  rw [hlen, dwordsFor, dwordBytes_packDwords]
  · rw [List.append_assoc, List.append_assoc, List.drop_left' (by simp), ← List.append_assoc]
    generalize 4 * ((lead + n + 3) / 4) = m at hrest
    have hfill : stream.take n ++ (stream.drop n).take (m - lead - n) = stream.take (m - lead) := by
      rw [← List.take_add]
      congr 1
      omega
    rw [hfill]
    by_cases hm : m - lead ≤ stream.length
    · have htrailing : m - lead - n - ((stream.drop n).take (m - lead - n)).length = 0 := by
        rw [List.length_take, List.length_drop]
        omega
      rw [htrailing, List.range_zero, List.map_nil, List.append_nil]
      exact List.take_of_length_le (by rw [List.length_take]; omega)
    · rw [List.take_of_length_le (by omega : stream.length ≤ m - lead), List.take_left]
  · simp only [List.length_append, List.length_map, List.length_range, hlen]
    have hle := List.length_take_le (4 * ((lead + n + 3) / 4) - lead - n) (stream.drop n)
    omega

section
variable {s : State} {i : SlotId} {e : Effect} {k : Fin 32} {b : OrtBody} {c : Completion}

/-! ### The taking of a matched completion -/

theorem State.cardCompletion_of_match (hb : ((s.slots[i]).trk.ort[k]).body = some b)
    (htag : c.tag = downstreamTag ((s.slots[i]).trk.ort[k]).gen k) :
    s.cardCompletion i c = (s.takeMatched i k b c).afterMatched i (s.slots[i]).cu.st := by
  obtain rfl : tagIndex c.tag = k := by rw [htag, tagIndex_downstreamTag]
  unfold State.cardCompletion
  dsimp only
  rw [hb]
  dsimp only
  rw [if_pos htag]

/-- R28: a completion under the tag of an OPEN entry is matched, and its tag counts no further. -/
theorem exec_cardCompletion_of_match (hb : ((s.slots[i]).trk.ort[k]).body = some b) (c : Completion) :
    exec (.cardCompletion i { c with tag := downstreamTag ((s.slots[i]).trk.ort[k]).gen k }) s =
      event (fun _ => ((s.did i (Effect.none s i)).takeMatched i k b c).afterMatched i (s.slots[i]).cu.st) s := by
  refine event_congr (s := s) (f := fun s => s.cardCompletion i _) (g := fun _ =>
    ((s.did i (Effect.none s i)).takeMatched i k b c).afterMatched i (s.slots[i]).cu.st) ?_
  rw [State.cardCompletion_of_match hb rfl, State.did_none]
  rfl

/-- R30, R31: the completion that a matched completion of a host entry sends to the host. -/
theorem State.did_forwardMatched {rid : BitVec 16} {tag : BitVec 10} (ho : b.origin = .upstream rid tag)
    (hn : isAbsorbed b c = false) : (s.did i e).forwardMatched b c = s.did i { e with
      sent := e.sent ++ [.completion (forwardedCompletion e.free rid tag b c)],
      free := e.free + forwardFreeBytes b c } := by
  unfold State.forwardMatched
  rw [ho]
  dsimp only
  rw [hn, if_neg Bool.false_ne_true, State.did_emitCompletions]
  rfl

theorem State.forwardMatched_of_absorbed (s : State) (hn : isAbsorbed b c = true) :
    s.forwardMatched b c = s := by
  unfold State.forwardMatched
  cases b.origin with
  | controller o => rfl
  | upstream rid tag => dsimp only; rw [if_pos hn]

theorem State.forwardMatched_of_controller {o : RequestOwner} (s : State) (ho : b.origin = .controller o) :
    s.forwardMatched b c = s := by
  unfold State.forwardMatched
  rw [ho]

/-- R29: an entry that stays OPEN. -/
def OrtBody.delivered (b : OrtBody) (c : Completion) : OrtBody :=
  { b with bytesOwed := b.bytesOwed - bytesDelivered b c, gathered := gatheredWith b c }

theorem State.did_keepOpen : (s.did i e).keepOpen i k b c = s.did i { e with
    slot := { e.slot with trk := { e.slot.trk with
      ort := e.slot.trk.ort.set k { gen := (e.slot.trk.ort[k]).gen, body := some (b.delivered c) } } } } := by
  unfold State.keepOpen
  dsimp only
  rw [State.did_onTracker]
  rfl

/-- R26, R30 to R34, R37: a matched completion that keeps its entry OPEN. -/
theorem State.takeMatched_of_kept (s : State) (h : closesEntry b c = false) :
    s.takeMatched i k b c = (s.forwardMatched b c).keepOpen i k b c := by
  unfold State.takeMatched
  dsimp only
  rw [h, if_neg Bool.false_ne_true]

theorem State.takeMatched_of_closed (s : State) (h : closesEntry b c = true) :
    s.takeMatched i k b c =
      (((((s.forwardMatched b c).freeEntry i k).shadowOf i b c).fileOverrun i k b c).passResult i b c) := by
  unfold State.takeMatched
  dsimp only
  rw [h, if_pos rfl]

theorem State.fileOverrun_of_none (s : State) (h : excessBytes b c = 0) : s.fileOverrun i k b c = s := by
  unfold State.fileOverrun
  rw [h, if_neg (by decide)]

theorem State.passResult_of_upstream (s : State) (ho : b.origin.isUpstream = true) : s.passResult i b c = s := by
  unfold State.passResult
  cases h : b.origin with
  | controller o => rw [h] at ho; cases ho
  | upstream rid tag => rfl

/-- R30, R37: no shadow update follows a read or an error. -/
theorem State.shadowOf_of_none (s : State) (h : c.status ≠ .success ∨ carriesData b.kind = true) : s.shadowOf i b c = s := by
  unfold State.shadowOf State.shadowUpdate
  cases b.origin with
  | controller o => rfl
  | upstream rid tag =>
    dsimp only
    rcases h with h | h
    · rw [if_neg h]
    · cases hk : b.kind with
      | memRead first => exact ite_self _
      | cfgRead offset primary => exact ite_self _
      | cfgWrite offset primary data enables => rw [hk] at h; cases h

/-! ### What follows a matched completion (R36, R57, R70) -/

/-- R57: a slot after a progress report. -/
def Slot.progressed (sl : Slot) (now : Tick) : Slot :=
  { sl with trk := { sl.trk with watch := if sl.cu.st = .active then watchOnProgress now sl sl.trk else .idle } }

theorem State.did_reportProgress : (s.did i e).reportProgress i = s.did i { e with slot := e.slot.progressed s.now } := by
  unfold State.reportProgress
  rw [State.did_onSlot]
  refine congrArg _ (Effect.ext ?_ rfl rfl rfl rfl rfl rfl)
  dsimp only [Slot.progressed]
  by_cases hst : e.slot.cu.st = .active
  · rw [if_neg (not_not.mpr hst), if_pos hst]
    unfold watchOnProgress
    simp only [openCount_eq_zero]
    rfl
  · rw [if_pos hst, if_neg hst]

theorem State.did_afterMatched_active : (s.did i e).afterMatched i .active = s.did i { e with slot := e.slot.progressed s.now } :=
  State.did_reportProgress

theorem State.did_afterMatched_fencing : (s.did i e).afterMatched i .fencing =
    (s.did i { e with slot := e.slot.progressed s.now }).endGraceIfEmpty i :=
  congrArg (·.endGraceIfEmpty i) State.did_reportProgress

end

end Sys2Proof.Machine

/-! PROOF. Matched completions of host entries: forwarded, absorbed, and an overrun (R26, R29 to R31, R34, R36, R57, R70). -/

namespace Sys2Proof.Machine

open Sys2Proof

/-! ### What a matched completion does to its entry (R29) -/

section
variable {b : OrtBody} {c : Completion}

theorem bytesCarried_of_no_data (h : c.data = []) : bytesCarried c = 0 := by
  rw [bytesCarried, h]
  rfl

theorem bytesDelivered_of_le (h : bytesCarried c ≤ b.bytesOwed) : bytesDelivered b c = bytesCarried c := Nat.min_eq_left h

theorem excessBytes_of_le (h : bytesCarried c ≤ b.bytesOwed) : excessBytes b c = 0 := by
  rw [excessBytes, bytesDelivered_of_le h, Nat.sub_self]

/-- A SUCCESS that delivers nothing of what is owed is absorbed, and its entry stays OPEN. -/
theorem absorbed_of_nothing (hc : c.status = .success) (hn : bytesCarried c = 0) (ho : 1 ≤ b.bytesOwed) :
    isAbsorbed b c = true ∧ closesEntry b c = false := by
  have hle : bytesCarried c ≤ b.bytesOwed := by omega
  have ha : isAbsorbed b c = true := by
    rw [isAbsorbed, hc, bytesDelivered_of_le hle, hn]
    simpa using ho
  refine ⟨ha, ?_⟩
  rw [closesEntry, ha, excessBytes_of_le hle, hc]
  rfl

/-- A SUCCESS that delivers some of what is owed and not all of it. -/
theorem kept_of_partial (hc : c.status = .success) (h0 : 0 < bytesCarried c) (hn : bytesCarried c < b.bytesOwed) :
    isAbsorbed b c = false ∧ closesEntry b c = false := by
  have hd := bytesDelivered_of_le (b := b) (Nat.le_of_lt hn)
  have hmore : (b.bytesOwed - bytesCarried c == 0) = false := by
    rw [beq_eq_false_iff_ne]
    omega
  have hsome : (bytesCarried c == 0) = false := by
    rw [beq_eq_false_iff_ne]
    omega
  have ha : isAbsorbed b c = false := by rw [isAbsorbed, hd, hsome, Bool.and_false, Bool.false_and]
  refine ⟨ha, ?_⟩
  rw [closesEntry, ha, hd, hmore, excessBytes_of_le (Nat.le_of_lt hn), hc]
  rfl

/-- A completion that delivers just what is owed. -/
theorem closed_of_all (hn : bytesCarried c = b.bytesOwed) : isAbsorbed b c = false ∧ closesEntry b c = true := by
  have hd := bytesDelivered_of_le (b := b) (Nat.le_of_eq hn)
  have ha : isAbsorbed b c = false := by
    rw [isAbsorbed, hd, hn]
    rcases Nat.eq_zero_or_pos b.bytesOwed with h | h
    · rw [h]
      simp
    · have : (b.bytesOwed == 0) = false := by
        rw [beq_eq_false_iff_ne]
        omega
      rw [this, Bool.and_false, Bool.false_and]
  refine ⟨ha, ?_⟩
  rw [closesEntry, ha, hd, hn, Nat.sub_self]
  simp

/-- An error status. -/
theorem closed_of_error (hc : c.status ≠ .success) : isAbsorbed b c = false ∧ closesEntry b c = true := by
  have hs : (c.status == .success) = false := beq_eq_false_iff_ne.mpr hc
  constructor
  · rw [isAbsorbed, hs, Bool.false_and, Bool.false_and]
  · rw [closesEntry, bne, hs]
    rfl

/-- A SUCCESS that carries more than is owed. -/
theorem closed_of_excess (h1 : 1 ≤ b.bytesOwed) (hn : b.bytesOwed < bytesCarried c) :
    isAbsorbed b c = false ∧ closesEntry b c = true ∧ bytesDelivered b c = b.bytesOwed ∧ 1 ≤ excessBytes b c := by
  have hd : bytesDelivered b c = b.bytesOwed := Nat.min_eq_right (Nat.le_of_lt hn)
  have he : 1 ≤ excessBytes b c := by
    rw [excessBytes, hd]
    omega
  have hsome : (b.bytesOwed == 0) = false := by
    rw [beq_eq_false_iff_ne]
    omega
  refine ⟨?_, ?_, hd, he⟩
  · rw [isAbsorbed, hd, hsome, Bool.and_false, Bool.false_and]
  · rw [closesEntry]
    simp [he]

/-- R29: what a host entry still owes. -/
theorem OrtBody.delivered_of_upstream (ho : b.origin.isUpstream = true) (hn : bytesCarried c ≤ b.bytesOwed) :
    b.delivered c = { b with bytesOwed := b.bytesOwed - bytesCarried c } := by
  unfold OrtBody.delivered gatheredWith
  rw [bytesDelivered_of_le hn]
  cases h : b.origin with
  | controller o => rw [h] at ho; cases ho
  | upstream rid tag => rfl

end

section
variable {s : State} {i : SlotId} {k : Fin 32} {b : OrtBody} {c : Completion} {x y : Slot} {attn : BitVec 24} {filed : Nat}

/-! ### The outcome (R30, R36) -/

/-- What an event has done that leaves the slot at `x`, with the packets `sent`. -/
def completionTaken (s : State) (i : SlotId) (x : Slot) (attn : BitVec 24) (filed : Nat) (sent : List HostPacket)
    (free : Nat) : Effect :=
  { Effect.none s i with slot := x, attn := attn, filed := filed, sent := sent, free := free }

/-- R36, R57, R70: what follows a matched completion makes `y` of the slot `x`, whatever the completion has sent. -/
def AfterMatched (s : State) (i : SlotId) (x y : Slot) (attn : BitVec 24) (filed : Nat) : Prop :=
  ∀ sent free, (s.did i (completionTaken s i x s.attn 0 sent free)).afterMatched i (s.slots[i]).cu.st =
    s.did i (completionTaken s i y attn filed sent free)

/-- R30, R57: the state after a completion has been forwarded. -/
theorem forwarded_outcome {f : State → State} {g : Completion} {free : Nat} {P : Completion → Prop}
    (hf : f s = s.did i (completionTaken s i y attn filed [.completion g] free)) (hP : P g) :
    ∃ t, event f s = .next t ∧
      (t = { s with
        slots := s.slots.set i y, attn := attn, incidentSerial := s.incidentSerial + BitVec.ofNat 32 filed,
        freeIndex := t.freeIndex, wires := t.wires } ∧
      t.wires = { s.wires with upstream := t.wires.upstream }) ∧ SentCompletion s t P :=
  ⟨_, event_did hf, ⟨rfl, rfl⟩, g, rfl, hP⟩

/-- R29, R57: the state after a completion has been absorbed. -/
theorem absorbed_outcome {f : State → State} (hf : f s = s.did i (completionTaken s i y s.attn 0 [] s.freeIndex)) :
    ∃ t, event f s = .next t ∧
      (t = { s with
        slots := s.slots.set i y, attn := s.attn, incidentSerial := s.incidentSerial + BitVec.ofNat 32 0,
        freeIndex := t.freeIndex, wires := t.wires } ∧
      t.wires = { s.wires with upstream := t.wires.upstream }) ∧ t.wires = s.wires := by
  refine ⟨_, event_next_of_kept hf rfl rfl, ⟨rfl, rfl⟩, ?_⟩
  simp [State.did, completionTaken]

/-! ### The taking (R26, R29) -/

/-- A host entry that a completion leaves OPEN (R29). -/
def Slot.keptOpen (sl : Slot) (k : Fin 32) (b : OrtBody) (c : Completion) : Slot :=
  { sl with trk := { sl.trk with
      ort := sl.trk.ort.set k
        { gen := (sl.trk.ort[k]).gen, body := some { b with bytesOwed := b.bytesOwed - bytesCarried c } } } }

/-- A slot in which entry `k` has been freed (R26). -/
def Slot.withoutEntry (sl : Slot) (k : Fin 32) : Slot := { sl with trk := sl.trk.withFreed k }

theorem takeMatched_of_absorbed (ho : b.origin.isUpstream = true) (hc : c.status = .success) (hn : bytesCarried c = 0)
    (h1 : 1 ≤ b.bytesOwed) : (s.did i (Effect.none s i)).takeMatched i k b c =
      s.did i (completionTaken s i ((s.slots[i]).keptOpen k b c) s.attn 0 [] s.freeIndex) := by
  obtain ⟨ha, hopen⟩ := absorbed_of_nothing hc hn h1
  rw [State.takeMatched_of_kept _ hopen, State.forwardMatched_of_absorbed _ ha, State.did_keepOpen,
    OrtBody.delivered_of_upstream ho (by omega)]
  rfl

theorem takeMatched_of_partial {rid : BitVec 16} {tag : BitVec 10} (ho : b.origin = .upstream rid tag)
    (hc : c.status = .success) (h0 : 0 < bytesCarried c) (hn : bytesCarried c < b.bytesOwed) :
    (s.did i (Effect.none s i)).takeMatched i k b c =
      s.did i (completionTaken s i ((s.slots[i]).keptOpen k b c) s.attn 0
        [.completion (forwardedCompletion s.freeIndex rid tag b c)] (s.freeIndex + forwardFreeBytes b c)) := by
  obtain ⟨ha, hopen⟩ := kept_of_partial hc h0 hn
  rw [State.takeMatched_of_kept _ hopen, State.did_forwardMatched ho ha, State.did_keepOpen,
    OrtBody.delivered_of_upstream (by rw [ho]; rfl) (by omega)]
  rfl

/-- A host entry that closes without excess and with no shadow update. -/
theorem takeMatched_of_closed {rid : BitVec 16} {tag : BitVec 10} (ho : b.origin = .upstream rid tag)
    (ha : isAbsorbed b c = false) (hcl : closesEntry b c = true) (hx : excessBytes b c = 0)
    (hs : c.status ≠ .success ∨ carriesData b.kind = true)
    (hh : (s.slots[i]).cu.st = .active → (s.slots[i]).trk.waiting = none ∧ (s.slots[i]).trk.hold = []) :
    (s.did i (Effect.none s i)).takeMatched i k b c =
      s.did i (completionTaken s i ((s.slots[i]).withoutEntry k) s.attn 0
        [.completion (forwardedCompletion s.freeIndex rid tag b c)] (s.freeIndex + forwardFreeBytes b c)) := by
  rw [State.takeMatched_of_closed _ hcl, State.did_forwardMatched ho ha, State.did_freeEntry (by exact hh),
    State.shadowOf_of_none _ hs, State.fileOverrun_of_none _ hx, State.passResult_of_upstream _ (by rw [ho]; rfl)]
  rfl

/-! ### What follows, by the slot state (R36, R57, R70) -/

theorem afterMatched_of_active (hst : (s.slots[i]).cu.st = .active) (hx : x.cu.st = .active)
    (hy : y = { x with trk := { x.trk with watch := watchOnProgress s.now x x.trk } }) :
    AfterMatched s i x y s.attn 0 := by
  intro sent free
  rw [hst, State.did_afterMatched_active, hy]
  unfold Slot.progressed
  rw [show (completionTaken s i x s.attn 0 sent free).slot.cu.st = .active from hx, if_pos rfl]
  rfl

theorem Slot.progressed_of_not_active (hx : x.cu.st ≠ .active) (now : Tick) :
    x.progressed now = { x with trk := { x.trk with watch := .idle } } := by
  unfold Slot.progressed
  rw [if_neg hx]

theorem afterMatched_of_fencing (hst : (s.slots[i]).cu.st = .fencing) (hx : x.cu.st = .fencing)
    (hopen : ∃ j : Fin 32, (x.trk.ort[j]).body ≠ none) :
    AfterMatched s i x { x with trk := { x.trk with watch := .idle } } s.attn 0 := by
  intro sent free
  have hactive : x.cu.st ≠ .active := by rw [hx]; decide
  rw [hst, State.did_afterMatched_fencing, show (completionTaken s i x s.attn 0 sent free).slot = x from rfl,
    Slot.progressed_of_not_active hactive, State.did_endGraceIfEmpty_of_open (by exact hopen)]
  rfl

theorem afterMatched_of_last (hst : (s.slots[i]).cu.st = .fencing) (hx : x.cu = (s.slots[i]).cu)
    (hfree : ∀ j : Fin 32, (x.trk.ort[j]).body = none) (hg : (s.slots[i]).cu.grace ≠ none)
    (hin : x.inForce = (s.slots[i]).inForce) (hou : x.ou = (s.slots[i]).ou) (hs : (s.slots[i]).StaysFenced) :
    AfterMatched s i x (({ x with trk := { x.trk with watch := .idle } } : Slot).fenceClosed s 1)
      (s.attn ||| fenceClosedMask i s.slots[i]) 1 := by
  intro sent free
  have hactive : x.cu.st ≠ .active := by rw [hx, hst]; decide
  have hstays : x.StaysFenced := by
    unfold Slot.StaysFenced
    rw [hx, hin]
    exact hs
  have hmask : fenceClosedMask i x = fenceClosedMask i s.slots[i] := by
    unfold fenceClosedMask doneMask Slot.orderOfCode
    rw [hou]
  rw [hst, State.did_afterMatched_fencing, show (completionTaken s i x s.attn 0 sent free).slot = x from rfl,
    Slot.progressed_of_not_active hactive, State.did_endGraceIfEmpty_of_free (by rw [show _ = _ from hx]; exact hst)
      (by rw [show _ = _ from hx]; exact hg) (by exact hfree) (by exact hstays), ← hmask]
  rfl

/-! ### The completion that the host gets (R30, R31) -/

/-- R30: a completion under the host's own requester id and tag, with the status of `c`. -/
def Addressed (b : OrtBody) (c f : Completion) : Prop :=
  b.origin = .upstream f.requesterId f.tag ∧ f.status = c.status ∧ f.byteCount = forwardedByteCount b ∧
    f.lowerAddress = forwardedLowerAddress b

theorem addressed_forwardedCompletion {rid : BitVec 16} {tag : BitVec 10} (ho : b.origin = .upstream rid tag) (free : Nat) :
    Addressed b c (forwardedCompletion free rid tag b c) := ⟨ho, rfl, rfl, rfl⟩

theorem carries_forwardedCompletion (hc : c.status = .success) (hk : carriesData b.kind = true) (free : Nat)
    (rid : BitVec 16) (tag : BitVec 10) : Carries (forwardedCompletion free rid tag b c).data
      ((forwardedLowerAddress b).toNat % 4) (bytesDelivered b c) (carriedStream c) := by
  unfold forwardedCompletion
  dsimp only
  rw [if_pos ⟨hc, hk⟩]
  exact carries_alignData _ _ _ _ (Nat.le_trans (Nat.min_le_left _ _) (bytesCarried_le_length c))

theorem data_forwardedCompletion_of_error (hc : c.status ≠ .success) (free : Nat) (rid : BitVec 16) (tag : BitVec 10) :
    (forwardedCompletion free rid tag b c).data = [] := by
  unfold forwardedCompletion
  dsimp only
  rw [if_neg fun h => hc h.1]

theorem OrtBody.origin_of_upstream (h : b.origin.isUpstream = true) :
    ∃ rid tag, b.origin = .upstream rid tag := by
  cases ho : b.origin with
  | controller o => rw [ho] at h; cases h
  | upstream rid tag => exact ⟨rid, tag, rfl⟩

/-! ### Forwarding (R29 to R31) -/

/-- What an event does that leaves the slot at `y`: nothing else changes but what has been sent and the free bytes used. -/
def LeavesSlot (s t : State) (i : SlotId) (y : Slot) (attn : BitVec 24) (filed : Nat) : Prop :=
  t = { s with
    slots := s.slots.set i y, attn := attn, incidentSerial := s.incidentSerial + BitVec.ofNat 32 filed,
    freeIndex := t.freeIndex, wires := t.wires } ∧
  t.wires = { s.wires with upstream := t.wires.upstream }

section
variable (hb : ((s.slots[i]).trk.ort[k]).body = some b) (ho : b.origin.isUpstream = true)

include hb ho

/-- A completion that leaves its entry OPEN. -/
theorem completion_keeps (ha : AfterMatched s i ((s.slots[i]).keptOpen k b c) y s.attn 0) :
    let run := exec (.cardCompletion i { c with tag := downstreamTag ((s.slots[i]).trk.ort[k]).gen k }) s
    (c.status = .success → carriesData b.kind = true → 0 < bytesCarried c → bytesCarried c < b.bytesOwed →
      ∃ t, run = .next t ∧ LeavesSlot s t i y s.attn 0 ∧ SentCompletion s t fun f => Addressed b c f ∧
        Carries f.data ((forwardedLowerAddress b).toNat % 4) (bytesCarried c) (carriedStream c)) ∧
    (c.status = .success → bytesCarried c = 0 → 1 ≤ b.bytesOwed →
      ∃ t, run = .next t ∧ LeavesSlot s t i y s.attn 0 ∧ t.wires = s.wires) := by
  intro run
  have hrun : run = _ := exec_cardCompletion_of_match hb c
  obtain ⟨rid, tag, hup⟩ := OrtBody.origin_of_upstream ho
  refine ⟨fun hc hk h0 hn => ?_, fun hc hn h1 => ?_⟩
  · rw [hrun, takeMatched_of_partial hup hc h0 hn, ← bytesDelivered_of_le (b := b) (Nat.le_of_lt hn)]
    exact forwarded_outcome (ha _ _) ⟨addressed_forwardedCompletion hup _, carries_forwardedCompletion hc hk _ _ _⟩
  · rw [hrun, takeMatched_of_absorbed ho hc hn h1]
    exact absorbed_outcome (ha _ _)

/-- A completion that closes its entry. -/
theorem completion_closes
    (hh : (s.slots[i]).cu.st = .active → (s.slots[i]).trk.waiting = none ∧ (s.slots[i]).trk.hold = [])
    (ha : AfterMatched s i ((s.slots[i]).withoutEntry k) y attn filed) :
    let run := exec (.cardCompletion i { c with tag := downstreamTag ((s.slots[i]).trk.ort[k]).gen k }) s
    (c.status = .success → carriesData b.kind = true → 0 < bytesCarried c → bytesCarried c = b.bytesOwed →
      ∃ t, run = .next t ∧ LeavesSlot s t i y attn filed ∧ SentCompletion s t fun f => Addressed b c f ∧
        Carries f.data ((forwardedLowerAddress b).toNat % 4) (bytesCarried c) (carriedStream c)) ∧
    (c.status ≠ .success → c.data = [] →
      ∃ t, run = .next t ∧ LeavesSlot s t i y attn filed ∧ SentCompletion s t fun f => Addressed b c f ∧ f.data = []) := by
  intro run
  have hrun : run = _ := exec_cardCompletion_of_match hb c
  obtain ⟨rid, tag, hup⟩ := OrtBody.origin_of_upstream ho
  refine ⟨fun hc hk _ hn => ?_, fun hc hd => ?_⟩
  · obtain ⟨hab, hcl⟩ := closed_of_all hn
    rw [hrun, takeMatched_of_closed hup hab hcl (excessBytes_of_le (Nat.le_of_eq hn)) (.inr hk) hh,
      ← bytesDelivered_of_le (b := b) (Nat.le_of_eq hn)]
    exact forwarded_outcome (ha _ _) ⟨addressed_forwardedCompletion hup _, carries_forwardedCompletion hc hk _ _ _⟩
  · obtain ⟨hab, hcl⟩ := closed_of_error (b := b) hc
    have hn := bytesCarried_of_no_data hd
    rw [hrun, takeMatched_of_closed hup hab hcl (excessBytes_of_le (by omega)) (.inl hc) hh]
    exact forwarded_outcome (ha _ _) ⟨addressed_forwardedCompletion hup _, data_forwardedCompletion_of_error hc _ _ _⟩

end

/-- Settles O33: what the completion does to its entry and what follows in the slot's state, put together. -/
theorem cardCompletionForwarded : Obligations.CardCompletionForwarded := by
  intro i k c s sl b hb ho run n isRead lower count keptEntry kept freed leaves addressed stays closes watched quiet
  refine ⟨fun hst hh hw => ⟨?activeStays, ?activeCloses⟩,
    fun hst => ⟨?fencingStays, fun hopen => ?fencingCloses, fun hfree hg hs => ?fencingEnds⟩⟩
  case activeStays => exact completion_keeps hb ho (afterMatched_of_active hst hst rfl)
  case activeCloses => exact completion_closes hb ho (fun _ => ⟨hw, hh⟩) (afterMatched_of_active hst hst rfl)
  case fencingStays =>
    refine completion_keeps hb ho (afterMatched_of_fencing hst hst ⟨k, ?_⟩)
    show ((sl.trk.ort.set k keptEntry)[k]).body ≠ none
    simp [keptEntry]
  case fencingCloses =>
    exact completion_closes hb ho (fun h => absurd (hst.symm.trans h) (by decide))
      (afterMatched_of_fencing hst hst (withFreed_open hopen))
  case fencingEnds =>
    exact completion_closes hb ho (fun h => absurd (hst.symm.trans h) (by decide))
      (afterMatched_of_last hst rfl (withFreed_free hfree) hg rfl rfl hs)

end

end Sys2Proof.Machine

/-! PROOF. Overruns and shadow updates (R34, R37). -/

namespace Sys2Proof.Machine

open Sys2Proof

section
variable {s : State} {i : SlotId} {k : Fin 32} {b : OrtBody} {c : Completion} {e : Effect}

/-! ### Overruns (R34) -/

theorem State.did_fileOverrun (h : 1 ≤ excessBytes b c) (hst : e.slot.cu.st ≠ .recovering) :
    (s.did i e).fileOverrun i k b c = s.did i { e with
      slot := { e.slot with
        ctr := { e.slot.ctr with
          overruns := if e.slot.ctr.overruns = 0xFFFFFFFF then e.slot.ctr.overruns else e.slot.ctr.overruns + 1 },
        inc := e.slot.inc.file (incidentAt s (e.filed + 1) .overrunCompletion e.slot.cu.st .none e.slot.port.epoch
          e.slot.attempt .none (some (countDword k.val)) (some (countDword b.bytesOwed))
          (some (countDword (bytesCarried c)))) },
      attn := e.attn ||| attentionMask i .incident, filed := e.filed + 1 } := by
  unfold State.fileOverrun
  rw [if_pos h, State.did_countOverrun, State.did_fileIncident (phase := .none)]
  exact State.did_phaseOf (by exact hst)

/-- R34: a slot in which an overrun has closed entry `k`. -/
def Slot.overrun (sl : Slot) (s : State) (k : Fin 32) (b : OrtBody) (c : Completion) : Slot :=
  { sl.withoutEntry k with
    ctr := { sl.ctr with overruns := if sl.ctr.overruns = 0xFFFFFFFF then sl.ctr.overruns else sl.ctr.overruns + 1 },
    inc := sl.inc.file (incidentAt s 1 .overrunCompletion sl.cu.st .none sl.port.epoch sl.attempt .none
      (some (countDword k.val)) (some (countDword b.bytesOwed)) (some (countDword (bytesCarried c)))) }

/-- That slot, which was ACTIVE, after the progress report. -/
def Slot.overrunTaken (sl : Slot) (s : State) (k : Fin 32) (b : OrtBody) (c : Completion) : Slot :=
  { sl.overrun s k b c with
    trk := { sl.trk.withFreed k with watch := watchOnProgress s.now sl (sl.trk.withFreed k) },
    inc := sl.inc.file (incidentAt s 1 .overrunCompletion .active .none sl.port.epoch sl.attempt .none
      (some (countDword k.val)) (some (countDword b.bytesOwed)) (some (countDword (bytesCarried c)))) }

theorem Slot.progressed_overrun {sl : Slot} (hst : sl.cu.st = .active) :
    (sl.overrun s k b c).progressed s.now = sl.overrunTaken s k b c := by
  unfold Slot.progressed
  rw [show (sl.overrun s k b c).cu.st = .active from hst, if_pos rfl]
  unfold Slot.overrun Slot.overrunTaken
  rw [hst]
  rfl

theorem takeMatched_of_overrun {rid : BitVec 16} {tag : BitVec 10} (ho : b.origin = .upstream rid tag)
    (hst : (s.slots[i]).cu.st = .active) (hh : (s.slots[i]).trk.hold = []) (hw : (s.slots[i]).trk.waiting = none)
    (hk : carriesData b.kind = true) (h1 : 1 ≤ b.bytesOwed) (hn : b.bytesOwed < bytesCarried c) :
    (s.did i (Effect.none s i)).takeMatched i k b c =
      s.did i (completionTaken s i ((s.slots[i]).overrun s k b c) (s.attn ||| attentionMask i .incident) 1
        [.completion (forwardedCompletion s.freeIndex rid tag b c)] (s.freeIndex + forwardFreeBytes b c)) := by
  obtain ⟨hab, hcl, -, hx⟩ := closed_of_excess h1 hn
  rw [State.takeMatched_of_closed _ hcl, State.did_forwardMatched ho hab, State.did_freeEntry fun _ => ⟨hw, hh⟩,
    State.shadowOf_of_none _ (.inr hk), State.did_fileOverrun hx, State.passResult_of_upstream _ (by rw [ho]; rfl)]
  · rfl
  · exact fun h => absurd (hst.symm.trans h) (by decide)

/-- Settles O34: the entry closes with the bytes owed delivered, and the overrun is counted and filed. -/
theorem overrunCloses : Obligations.OverrunCloses := by
  intro i k c s sl b hb ho hst hh hw freed lower count hk hc h1 hn
  obtain ⟨-, -, hd, -⟩ := closed_of_excess h1 hn
  obtain ⟨rid, tag, hup⟩ := OrtBody.origin_of_upstream ho
  have hcarries := carries_forwardedCompletion hc hk s.freeIndex rid tag
  rw [hd] at hcarries
  have hdone : ((s.did i (Effect.none s i)).takeMatched i k b c).afterMatched i (s.slots[i]).cu.st =
      s.did i (completionTaken s i (sl.overrunTaken s k b c) (s.attn ||| attentionMask i .incident) 1
        [.completion (forwardedCompletion s.freeIndex rid tag b c)] (s.freeIndex + forwardFreeBytes b c)) := by
    rw [takeMatched_of_overrun hup hst hh hw hk h1 hn, hst, State.did_afterMatched_active]
    exact congrArg _ (Effect.ext (Slot.progressed_overrun hst) rfl rfl rfl rfl rfl rfl)
  rw [exec_cardCompletion_of_match hb c]
  obtain ⟨t, hrun, ⟨ht, hwires⟩, hsent⟩ := forwarded_outcome (f := fun _ => _) hdone
    (P := fun f => b.origin = .upstream f.requesterId f.tag ∧ f.status = .success ∧ f.byteCount = count ∧
      f.lowerAddress = lower ∧ Carries f.data (lower.toNat % 4) b.bytesOwed (carriedStream c))
    ⟨hup, hc, rfl, rfl, hcarries⟩
  exact ⟨t, hrun, ht, hwires, hsent⟩

/-! ### Shadow updates (R37) -/

/-- R37: the merged value takes the enabled bytes of the data and keeps the others. -/
theorem extractLsb'_mergeBytes (old data : Dword) (enables : BitVec 4) (j : Fin 4) :
    (mergeBytes old data enables).extractLsb' (8 * j.val) 8 =
      if enables.getLsbD j.val = true then data.extractLsb' (8 * j.val) 8 else old.extractLsb' (8 * j.val) 8 := by
  have hbytes : leBytes 4 (mergeBytes old data enables) = (List.range 4).map fun n =>
      if enables.getLsbD n = true then data.extractLsb' (8 * n) 8 else old.extractLsb' (8 * n) 8 :=
    leBytes_ofLeBytes _ _ _ _ []
  have hget := congrArg (fun bs => bs[j.val]?) hbytes
  simpa [leBytes] using hget

/-- R37: the records that a shadow update updates are the CAPTURED ones of its offset. -/
theorem forShadow_iff (r : RestoreRecord) (offset : BitVec 10) :
    r.forShadow offset = true ↔ r.state = 3 ∧ r.offset = offset.setWidth 16 := by
  unfold RestoreRecord.forShadow RestoreRecord.known
  rw [Bool.and_eq_true, Bool.and_eq_true, Bool.and_eq_true, beq_iff_eq, beq_iff_eq]
  constructor
  · rintro ⟨⟨-, h3⟩, hoff⟩
    exact ⟨h3, hoff⟩
  · rintro ⟨h3, hoff⟩
    have hlt := offset.isLt
    rw [h3, hoff]
    refine ⟨⟨⟨by decide, ?_⟩, rfl⟩, rfl⟩
    rw [decide_eq_true_iff, BitVec.toNat_setWidth]
    omega

theorem getElem_shadow (ctx : ContextStore) (offset : BitVec 10) (data : Dword) (enables : BitVec 4) (m : Fin 64) :
    (ctx.shadow offset data enables).records[m] =
      if ctx.records[m].forShadow offset then
        { ctx.records[m] with value := mergeBytes ctx.records[m].value data enables } else ctx.records[m] :=
  getElem_mapVector _ _ m

/-- R37: what a shadow update makes of a record, byte by byte. -/
theorem shadow_record (ctx : ContextStore) (offset : BitVec 10) (data : Dword) (enables : BitVec 4) (m : Fin 64) :
    ∃ v : Dword, (ctx.shadow offset data enables).records[m] = { ctx.records[m] with value := v } ∧
      if (ctx.records[m]).state = 3 ∧ (ctx.records[m]).offset = offset.setWidth 16 then
        ∀ j : Fin 4, v.extractLsb' (8 * j.val) 8 = if enables.getLsbD j.val = true
          then data.extractLsb' (8 * j.val) 8 else ((ctx.records[m]).value).extractLsb' (8 * j.val) 8
      else v = (ctx.records[m]).value := by
  have hiff := forShadow_iff ctx.records[m] offset
  by_cases h : (ctx.records[m]).state = 3 ∧ (ctx.records[m]).offset = offset.setWidth 16
  · refine ⟨_, (getElem_shadow ctx offset data enables m).trans (if_pos (hiff.mpr h)), ?_⟩
    rw [if_pos h]
    exact extractLsb'_mergeBytes _ _ _
  · refine ⟨(ctx.records[m]).value, (getElem_shadow ctx offset data enables m).trans (if_neg (mt hiff.mp h)), ?_⟩
    rw [if_neg h]

section
variable {rid : BitVec 16} {tag offset : BitVec 10} {data : Dword} {enables : BitVec 4} {y : Slot} {attn : BitVec 24}
  {filed : Nat}

/-- A slot in which the shadow update has been made. -/
def Slot.shadowed (sl : Slot) (offset : BitVec 10) (data : Dword) (enables : BitVec 4) : Slot :=
  { sl with ctx := sl.ctx.shadow offset data enables }

theorem takeMatched_of_shadow (ho : b.origin = .upstream rid tag) (hk : b.kind = .cfgWrite offset true data enables)
    (hc : c.status = .success) (hd : c.data = []) (h0 : b.bytesOwed = 0)
    (hh : (s.slots[i]).cu.st = .active → (s.slots[i]).trk.waiting = none ∧ (s.slots[i]).trk.hold = []) :
    (s.did i (Effect.none s i)).takeMatched i k b c =
      s.did i (completionTaken s i (((s.slots[i]).withoutEntry k).shadowed offset data enables) s.attn 0
        [.completion { requesterId := rid, tag := tag, status := .success, byteCount := 4, lowerAddress := 0, data := [] }]
        s.freeIndex) := by
  have hn : bytesCarried c = b.bytesOwed := (bytesCarried_of_no_data hd).trans h0.symm
  obtain ⟨hab, hcl⟩ := closed_of_all hn
  have hforward : forwardedCompletion s.freeIndex rid tag b c =
      { requesterId := rid, tag := tag, status := .success, byteCount := 4, lowerAddress := 0, data := [] } := by
    unfold forwardedCompletion forwardedByteCount forwardedLowerAddress carriesData
    dsimp only
    rw [hk, hc]
    rfl
  have hfree : forwardFreeBytes b c = 0 := by
    unfold forwardFreeBytes carriesData
    rw [hk]
    exact if_neg fun h => Bool.false_ne_true h.2
  rw [State.takeMatched_of_closed _ hcl, State.did_forwardMatched ho hab, State.did_freeEntry (by exact hh)]
  unfold State.shadowOf State.shadowUpdate
  rw [ho, hk, hc]
  dsimp only
  rw [if_pos rfl, State.did_onSlot, State.fileOverrun_of_none _ (excessBytes_of_le (Nat.le_of_eq hn)),
    State.passResult_of_upstream _ (by rw [ho]; rfl), hfree, show (Effect.none s i).free = s.freeIndex from rfl, hforward]
  rfl

/-- R37: the outcome of a completion that closes a host CFG_WRITE to the primary function. -/
theorem shadow_outcome (hb : ((s.slots[i]).trk.ort[k]).body = some b) (ho : b.origin = .upstream rid tag)
    (hk : b.kind = .cfgWrite offset true data enables) (hc : c.status = .success) (hd : c.data = []) (h0 : b.bytesOwed = 0)
    (hh : (s.slots[i]).cu.st = .active → (s.slots[i]).trk.waiting = none ∧ (s.slots[i]).trk.hold = [])
    (ha : AfterMatched s i (((s.slots[i]).withoutEntry k).shadowed offset data enables)
      { y with ctx := (s.slots[i]).ctx.shadow offset data enables } attn filed) :
    ∃ t, exec (.cardCompletion i { c with tag := downstreamTag ((s.slots[i]).trk.ort[k]).gen k }) s = .next t ∧
      t = slotAfter s i { y with ctx := { header := (s.slots[i]).ctx.header, records := (t.slots[i]).ctx.records } } attn filed
        [.completion { requesterId := rid, tag := tag, status := .success, byteCount := 4, lowerAddress := 0, data := [] }] ∧
      ∀ m : Fin 64, ∃ v : Dword, (t.slots[i]).ctx.records[m] = { (s.slots[i]).ctx.records[m] with value := v } ∧
        if ((s.slots[i]).ctx.records[m]).state = 3 ∧ ((s.slots[i]).ctx.records[m]).offset = offset.setWidth 16 then
          ∀ j : Fin 4, v.extractLsb' (8 * j.val) 8 = if enables.getLsbD j.val = true
            then data.extractLsb' (8 * j.val) 8 else (((s.slots[i]).ctx.records[m]).value).extractLsb' (8 * j.val) 8
        else v = ((s.slots[i]).ctx.records[m]).value := by
  have hdone := (congrArg (·.afterMatched i (s.slots[i]).cu.st) (takeMatched_of_shadow (k := k) ho hk hc hd h0 hh)).trans
    (ha _ _)
  have hrun := (exec_cardCompletion_of_match hb c).trans (event_did (f := fun _ => _) hdone)
  have hctx : ((slotAfter s i { y with ctx := (s.slots[i]).ctx.shadow offset data enables } attn filed
      [.completion { requesterId := rid, tag := tag, status := .success, byteCount := 4, lowerAddress := 0,
                     data := [] }]).slots[i]).ctx = (s.slots[i]).ctx.shadow offset data enables := by
    simp [slotAfter]
  refine ⟨_, hrun, ?_, fun m => ?_⟩
  · dsimp only [completionTaken, Effect.none]
    rw [hctx]
    rfl
  · dsimp only [completionTaken, Effect.none]
    rw [hctx]
    exact shadow_record _ _ _ _ m

end

/-- Settles O35: the entry closes as any other does, with the shadow update of every CAPTURED record of its offset. -/
theorem shadowUpdate : Obligations.ShadowUpdate := by
  intro i k c s sl b hb hc hd h0 run
  split
  · next rid tag offset data enables ho hk =>
    intro updates freed quiet
    refine ⟨fun hst hh hw => ?active, fun hst => ⟨fun hopen => ?fencing, fun hfree hg hs => ?last⟩⟩
    case active =>
      exact shadow_outcome hb ho hk hc hd h0 (fun _ => ⟨hw, hh⟩) (afterMatched_of_active hst hst rfl)
    case fencing =>
      exact shadow_outcome hb ho hk hc hd h0 (fun h => absurd (hst.symm.trans h) (by decide))
        (afterMatched_of_fencing hst hst (withFreed_open hopen))
    case last =>
      exact shadow_outcome hb ho hk hc hd h0 (fun h => absurd (hst.symm.trans h) (by decide))
        (afterMatched_of_last hst rfl (withFreed_free hfree) hg rfl rfl hs)
  · trivial

end

end Sys2Proof.Machine

/-! PROOF. Matched completions of the controller's own entries, and the reads of a capture (R32, R141 to R144). -/

namespace Sys2Proof.Machine

open Sys2Proof

/-! ### The search for the next record (R122, R142) -/

section
variable {P : RestoreRecord → Bool} {Q : RestoreRecord → Prop} {ctx : ContextStore} {n : Nat} {m : Fin 64}

theorem find_record_eq_some (hPQ : ∀ r, P r = true ↔ Q r) (h : FirstRecord Q ctx n m) :
    (List.finRange 64).find? (fun k => decide (n ≤ k.val) && P ctx.records[k]) = some m := by
  obtain ⟨hn, hm, hfirst⟩ := h
  rw [find_finRange_eq_some]
  refine ⟨?_, fun j hj => ?_⟩
  · rw [Bool.and_eq_true, decide_eq_true_iff]
    exact ⟨hn, (hPQ _).mpr hm⟩
  · rw [Bool.and_eq_false_iff, decide_eq_false_iff_not, ← Bool.not_eq_true]
    by_cases hle : n ≤ j.val
    · exact .inr fun hp => hfirst j hle hj ((hPQ _).mp hp)
    · exact .inl hle

theorem find_record_eq_none (hPQ : ∀ r, P r = true ↔ Q r) (h : ∀ r : Fin 64, n ≤ r.val → ¬ Q ctx.records[r]) :
    (List.finRange 64).find? (fun k => decide (n ≤ k.val) && P ctx.records[k]) = none := by
  rw [find_finRange_eq_none]
  intro j
  rw [Bool.and_eq_false_iff, decide_eq_false_iff_not, ← Bool.not_eq_true]
  by_cases hle : n ≤ j.val
  · exact .inr fun hp => h j hle ((hPQ _).mp hp)
  · exact .inl hle

end

/-- R142: the records that a capture reads. -/
theorem forCapture_iff (r : RestoreRecord) : r.forCapture = true ↔ Reads r := by
  unfold RestoreRecord.forCapture RestoreRecord.known Reads
  rw [Bool.and_eq_true, Bool.and_eq_true, decide_eq_true_iff, decide_eq_true_iff, decide_eq_true_iff]
  exact ⟨fun ⟨⟨h4, ho⟩, h2⟩ => ⟨h2, h4, ho⟩, fun ⟨h2, h4, ho⟩ => ⟨⟨h4, ho⟩, h2⟩⟩

section
variable {s : State} {i : SlotId} {k : Fin 32} {b : OrtBody} {c : Completion} {e : Effect}

/-! ### The result of a controller request (R32) -/

/-- R32: a matched completion that closes an entry of CONTROLLER origin. -/
theorem State.takeMatched_of_controller {o : RequestOwner} (s : State) (ho : b.origin = .controller o)
    (hcl : closesEntry b c = true) (hx : excessBytes b c = 0) :
    s.takeMatched i k b c = (s.freeEntry i k).ownerResult i o (controllerResult b c) := by
  have hshadow : (s.freeEntry i k).shadowOf i b c = s.freeEntry i k := by
    unfold State.shadowOf
    rw [ho]
  rw [State.takeMatched_of_closed _ hcl, State.forwardMatched_of_controller _ ho, hshadow, State.fileOverrun_of_none _ hx]
  unfold State.passResult
  rw [ho]

/-- R32: the value that a read of four bytes passes to its owner. -/
theorem controllerResult_of_read {o : RequestOwner} (ho : b.origin = .controller o) (hc : c.status = .success)
    (hg : b.gathered = []) (hn : bytesCarried c = 4) (h4 : b.bytesOwed = 4) :
    controllerResult b c = .success (ofLeBytes 32 4 ((carriedStream c).take 4)) := by
  unfold controllerResult gatheredWith
  rw [hc, ho]
  dsimp only
  rw [hg, bytesDelivered_of_le (by omega), hn, List.nil_append]

/-! ### The end of a capture (R144) -/

/-- R144: a slot whose capture `cp` has finished at tick `now`. -/
def Slot.captureFinished (sl : Slot) (now : Tick) (cp : Capture) : Slot :=
  { sl with
    capture := none,
    ctx := { sl.ctx with header := { sl.ctx.header with
      captureSerial := sl.ctx.header.captureSerial + 1, lastCaptureTick := now } },
    ou := sl.ouEnding now 2 (if cp.recordsFailed = 0 ∧ cp.identityResult = .read then .done else .partly)
      (if cp.identityResult = .unread then .identityUnread else .none) (BitVec.ofNat 32 cp.recordsRead)
      (BitVec.ofNat 32 cp.recordsFailed) (BitVec.ofNat 32 cp.firstFailed) }

theorem State.did_advanceCapture_of_none {cp : Capture}
    (h : ∀ r : Fin 64, cp.cursor ≤ r.val → ¬ Reads e.slot.ctx.records[r]) :
    (s.did i e).advanceCapture i cp = s.did i { e with
      slot := e.slot.captureFinished s.now cp, attn := e.attn ||| doneMask i e.slot 2 } := by
  have hnext : e.slot.ctx.nextForCapture cp.cursor = none := find_record_eq_none forCapture_iff h
  unfold State.advanceCapture
  dsimp only
  rw [State.did_slot, hnext]
  dsimp only
  unfold State.finishCapture State.endCapture
  dsimp only
  rw [State.did_onSlot, State.did_setCapture, State.did_endOrderOf]
  rfl

/-! ### The next read (R142) -/

/-- R142: a slot whose capture `cp` reads record `m` as entry `j`. -/
def Slot.captureReads (sl : Slot) (s : State) (cp : Capture) (m : Fin 64) (j : Fin 32) : Slot :=
  ({ sl with capture := some { cp with
      step := .record m, offsetInHand := (sl.ctx.records[m]).offset, cursor := m.val } } : Slot).withOpened s.now j
    (readBody s sl .capture ((sl.ctx.records[m]).offset.setWidth 10))
    (readSent s sl (downstreamTag (sl.trk.ort[j]).gen j) ((sl.ctx.records[m]).offset.setWidth 10))

theorem State.did_advanceCapture_of_first {cp : Capture} {m : Fin 64} {j : Fin 32}
    (h : FirstRecord Reads e.slot.ctx cp.cursor m) (hj : LowestFree e.slot j) :
    (s.did i e).advanceCapture i cp = s.did i { e with slot := e.slot.captureReads s cp m j } := by
  have hnext : e.slot.ctx.nextForCapture cp.cursor = some m := find_record_eq_some forCapture_iff h
  unfold State.advanceCapture
  dsimp only
  rw [State.did_slot, hnext]
  dsimp only
  rw [State.did_setCapture, State.did_issueController]
  · rfl
  · exact hj

/-! ### The result of a capture's read (R141, R143) -/

theorem State.did_captureResult_of_identity {cp : Capture} (hcap : e.slot.capture = some cp) (hst : cp.step = .identity)
    (hstop : cp.stop = false) (v : Dword) :
    (s.did i e).captureResult i (.success v) =
      (s.did i { e with slot := { e.slot with ctx := { e.slot.ctx with
        header := { e.slot.ctx.header with identityValid := 1, identity := v } } } }).advanceCapture i
        { cp with identityResult := .read, cursor := 0 } := by
  unfold State.captureResult
  rw [State.did_slot, hcap]
  dsimp only
  rw [hst, State.did_onSlot]
  unfold State.continueCapture
  dsimp only
  rw [hstop, if_neg Bool.false_ne_true]
  rfl

theorem State.did_captureResult_of_record {cp : Capture} {m : Fin 64} (hcap : e.slot.capture = some cp)
    (hst : cp.step = .record m) (hstop : cp.stop = false) (hr : Reads e.slot.ctx.records[m])
    (ho : (e.slot.ctx.records[m]).offset = cp.offsetInHand) (v : Dword) :
    (s.did i e).captureResult i (.success v) =
      (s.did i { e with slot := { e.slot with ctx := { e.slot.ctx with
        records := e.slot.ctx.records.set m { e.slot.ctx.records[m] with
          value := v, state := 3, serial := e.slot.ctx.header.captureSerial + 1 } } } }).advanceCapture i
        { cp with recordsRead := cp.recordsRead + 1, cursor := m.val + 1 } := by
  have hlive : (e.slot.ctx.records[m]).stillForCapture cp.offsetInHand = true := by
    unfold RestoreRecord.stillForCapture
    rw [(forCapture_iff _).mpr hr, ho, beq_self_eq_true]
    rfl
  unfold State.captureResult
  rw [State.did_slot, hcap]
  dsimp only
  rw [hst]
  dsimp only
  unfold State.recordResult
  dsimp only
  rw [State.did_slot, hlive, if_pos rfl, State.did_onSlot]
  unfold State.continueCapture
  dsimp only
  rw [hstop, if_neg Bool.false_ne_true]
  rfl

/-! ### A capture's read that succeeds in ACTIVE, with the progress that it is (R32, R57) -/

/-- R141: a slot whose entry `k` read the identity `v`. -/
def Slot.identityRead (sl : Slot) (k : Fin 32) (v : Dword) : Slot :=
  { sl.withoutEntry k with ctx := { sl.ctx with header := { sl.ctx.header with identityValid := 1, identity := v } } }

/-- R143: a slot whose entry `k` read the value `v` of record `m`. -/
def Slot.recordRead (sl : Slot) (k : Fin 32) (m : Fin 64) (v : Dword) : Slot :=
  { sl.withoutEntry k with ctx := { sl.ctx with records := sl.ctx.records.set m { sl.ctx.records[m] with
    value := v, state := 3, serial := sl.ctx.header.captureSerial + 1 } } }

section
variable {cp : Capture} {m : Fin 64}

/-- R32, R57: a capture's read that succeeds in ACTIVE with nothing to hand its entry on to. -/
theorem exec_captureRead (hb : ((s.slots[i]).trk.ort[k]).body = some b) (ho : b.origin = .controller .capture)
    (hg : b.gathered = []) (h4 : b.bytesOwed = 4) (hc : c.status = .success) (hn : bytesCarried c = 4)
    (hst : (s.slots[i]).cu.st = .active) (hh : (s.slots[i]).trk.hold = []) (hw : (s.slots[i]).trk.waiting = none) :
    exec (.cardCompletion i { c with tag := downstreamTag ((s.slots[i]).trk.ort[k]).gen k }) s =
      event (fun _ => ((s.did i { Effect.none s i with slot := (s.slots[i]).withoutEntry k }).captureResult i
        (.success (ofLeBytes 32 4 ((carriedStream c).take 4)))).afterMatched i .active) s := by
  have hall : bytesCarried c = b.bytesOwed := hn.trans h4.symm
  rw [exec_cardCompletion_of_match hb c, State.takeMatched_of_controller _ ho (closed_of_all hall).2
    (excessBytes_of_le (Nat.le_of_eq hall)), State.did_freeEntry (fun _ => ⟨hw, hh⟩),
    controllerResult_of_read ho hc hg hn h4, hst]
  rfl

theorem event_captureResult_of_identity (hcap : (s.slots[i]).capture = some cp) (hst : cp.step = .identity)
    (hstop : cp.stop = false) (v : Dword) :
    event (fun _ => ((s.did i { Effect.none s i with slot := (s.slots[i]).withoutEntry k }).captureResult i
        (.success v)).afterMatched i .active) s =
      event (fun _ => ((s.did i { Effect.none s i with slot := (s.slots[i]).identityRead k v }).advanceCapture i
        { cp with identityResult := .read, cursor := 0 }).afterMatched i .active) s := by
  rw [State.did_captureResult_of_identity (by exact hcap) hst hstop]
  rfl

theorem event_captureResult_of_record (hcap : (s.slots[i]).capture = some cp) (hst : cp.step = .record m)
    (hstop : cp.stop = false) (hr : Reads (s.slots[i]).ctx.records[m])
    (ho : ((s.slots[i]).ctx.records[m]).offset = cp.offsetInHand) (v : Dword) :
    event (fun _ => ((s.did i { Effect.none s i with slot := (s.slots[i]).withoutEntry k }).captureResult i
        (.success v)).afterMatched i .active) s =
      event (fun _ => ((s.did i { Effect.none s i with slot := (s.slots[i]).recordRead k m v }).advanceCapture i
        { cp with recordsRead := cp.recordsRead + 1, cursor := m.val + 1 }).afterMatched i .active) s := by
  rw [State.did_captureResult_of_record (by exact hcap) hst hstop (by exact hr) (by exact ho)]
  rfl

end

section
variable {x : Slot} {cp : Capture}

/-- A capture that goes on in slot `x` to its end. -/
theorem event_captureFinished (hst : x.cu.st = .active) (h : ∀ r : Fin 64, cp.cursor ≤ r.val → ¬ Reads x.ctx.records[r]) :
    event (fun _ => ((s.did i { Effect.none s i with slot := x }).advanceCapture i cp).afterMatched i .active) s =
      .next (slotAfter s i { x.captureFinished s.now cp with
        trk := { x.trk with watch := watchOnProgress s.now x x.trk } } (s.attn ||| doneMask i x 2) 0 []) := by
  refine event_did (f := fun _ => _) (e := { Effect.none s i with
    slot := { x.captureFinished s.now cp with trk := { x.trk with watch := watchOnProgress s.now x x.trk } }
    attn := s.attn ||| doneMask i x 2 }) ?_
  rw [State.did_advanceCapture_of_none (by exact h), State.did_afterMatched_active, Slot.progressed, if_pos (by exact hst)]
  rfl

/-- A capture that goes on in slot `x` to the read of record `m`. -/
theorem event_captureReads {m : Fin 64} {j : Fin 32} (hst : x.cu.st = .active) (h : FirstRecord Reads x.ctx cp.cursor m)
    (hj : LowestFree x j) :
    event (fun _ => ((s.did i { Effect.none s i with slot := x }).advanceCapture i cp).afterMatched i .active) s =
      .next (slotAfter s i { x.captureReads s cp m j with
        trk := { (x.captureReads s cp m j).trk with
          watch := watchOnProgress s.now x (x.captureReads s cp m j).trk } } s.attn 0 []) := by
  refine event_did (f := fun _ => _) (e := { Effect.none s i with
    slot := { x.captureReads s cp m j with
      trk := { (x.captureReads s cp m j).trk with
        watch := watchOnProgress s.now x (x.captureReads s cp m j).trk } } }) ?_
  rw [State.did_advanceCapture_of_first (by exact h) (by exact hj), State.did_afterMatched_active, Slot.progressed,
    if_pos (by exact hst)]
  rfl

end

/-- A record of a slot whose record `m` was read is the one before, unless it is `m`. -/
theorem recordRead_records_of_ne {m n : Fin 64} (h : n ≠ m) (sl : Slot) (k : Fin 32) (v : Dword) :
    (sl.recordRead k m v).ctx.records[n] = sl.ctx.records[n] :=
  (getElem_set_fin _ _ _ _).trans (if_neg h)

/-- Settles O36: the read gives its value to the identity or to its record, and the capture goes on or ends. -/
theorem captureReads : Obligations.CaptureReads := by
  intro i k j m m' c s sl b hb cp hcap ho hg h4 hr4 hc hn hstop hst hh hw hou run v freed progressed seen record filled
    finished reads
  have hrun := exec_captureRead (i := i) hb ho hg h4 hc hn hst hh hw
  have hother : ∀ n : Fin 64, m < n → ((s.slots[i]).recordRead k m v).ctx.records[n] = (s.slots[i]).ctx.records[n] :=
    fun n h => recordRead_records_of_ne (ne_of_gt h) _ k v
  refine ⟨fun hs hnone => ?identityEnds, fun hs hfirst hj => ?identityGoesOn, fun hs hr hoff hnone => ?recordEnds,
    fun hs hr hoff hfirst hj => ?recordGoesOn⟩
  case identityEnds =>
    rw [event_captureResult_of_identity hcap hs hstop,
      event_captureFinished (by exact hst) (by exact fun r _ => hnone r)] at hrun
    exact hrun
  case identityGoesOn =>
    rw [event_captureResult_of_identity hcap hs hstop,
      event_captureReads (m := m) (j := j) (by exact hst) (by exact hfirst) (by exact hj)] at hrun
    exact hrun
  case recordEnds =>
    have hnone' : ∀ n : Fin 64, m.val + 1 ≤ n.val → ¬ Reads ((s.slots[i]).recordRead k m v).ctx.records[n] :=
      fun n hle => hother n hle ▸ hnone n hle
    rw [event_captureResult_of_record hcap hs hstop hr hoff,
      event_captureFinished (by exact hst) (by exact hnone')] at hrun
    exact hrun
  case recordGoesOn =>
    obtain ⟨hle, hm', hbefore⟩ := hfirst
    have hfirst' : FirstRecord Reads ((s.slots[i]).recordRead k m v).ctx (m.val + 1) m' :=
      ⟨hle, (hother m' hle).symm ▸ hm', fun n hn hlt => hother n hn ▸ hbefore n hn hlt⟩
    rw [event_captureResult_of_record hcap hs hstop hr hoff,
      event_captureReads (m := m') (j := j) (by exact hst) (by exact hfirst') (by exact hj)] at hrun
    exact hrun

end

end Sys2Proof.Machine

/-! PROOF. The plan in SETTLING and RESTORING: its requests, what it makes of their results, and the end of an attempt (R120
to R130). -/

namespace Sys2Proof.Machine

open Sys2Proof

/-! ### The records that a plan writes (R122) -/

theorem forPlan_iff (r : RestoreRecord) : r.forPlan = true ↔ Writes r := by
  unfold RestoreRecord.forPlan RestoreRecord.known Writes
  simp only [Bool.and_eq_true, Bool.or_eq_true, decide_eq_true_iff, beq_iff_eq, bne_iff_ne]
  constructor
  · rintro ⟨⟨⟨-, ho⟩, hst⟩, hmask⟩
    exact ⟨hst, ho, hmask⟩
  · rintro ⟨hst, ho, hmask⟩
    refine ⟨⟨⟨?_, ho⟩, hst⟩, hmask⟩
    rcases hst with h | h <;> rw [h] <;> decide

/-! ### The plan's requests (R121, R123, R124) -/

/-- What an event has done that changed the slot of a plan to `x` and the current plan to `plan`. -/
def planEffect (s : State) (i : SlotId) (x : Slot) (plan : Option Plan) : Effect :=
  { Effect.none s i with slot := x, plan := plan }

section
variable {s : State} {x : Slot} {q : Plan} {plan : Option Plan} {k : Fin 32} {m : Fin 64} {n : Nat}

theorem event_planEffect (s : State) (i : SlotId) (x : Slot) (plan : Option Plan) :
    event (fun _ => s.did i (planEffect s i x plan)) s = .next { slotAfter s i x s.attn 0 [] with plan := plan } :=
  event_did (f := fun _ => _) rfl

/-- A slot of plan `q` in which entry `k` opens for the plan's request. -/
def Slot.planOpens (x : Slot) (s : State) (q : Plan) (k : Fin 32) : Slot :=
  x.withOpened s.now k (controllerOpens s x q.request)
    (controllerSends s x (downstreamTag (x.trk.ort[k]).gen k) q.request)

theorem State.did_planIssues (hk : LowestFree x k) :
    (s.did q.slot (planEffect s q.slot x plan)).planIssues q =
      s.did q.slot (planEffect s q.slot (x.planOpens s q k) (some q)) := by
  unfold State.planIssues
  rw [State.did_setPlan, State.did_issueController _ (by exact hk)]
  rfl

theorem Slot.planOpens_of_settling (h : q.phase = .settling) : x.planOpens s q k =
    x.withOpened s.now k (readBody s x .plan 0) (readSent s x (downstreamTag (x.trk.ort[k]).gen k) 0) := by
  unfold Slot.planOpens Plan.request
  rw [h]
  rfl

theorem Slot.planOpens_of_write (h : q.phase = .restoring) (hst : q.step = .write) : x.planOpens s q k =
    x.withOpened s.now k (writeBody s x q.hand) (writeSent s x (downstreamTag (x.trk.ort[k]).gen k) q.hand) := by
  unfold Slot.planOpens Plan.request
  rw [h, hst]
  rfl

theorem Slot.planOpens_of_verify (h : q.phase = .restoring) (hst : q.step = .verify) : x.planOpens s q k =
    x.withOpened s.now k (readBody s x .plan q.hand.offset)
      (readSent s x (downstreamTag (x.trk.ort[k]).gen k) q.hand.offset) := by
  unfold Slot.planOpens Plan.request
  rw [h, hst]
  rfl

/-! ### The restore cursor moves on (R122, R125, R126) -/

theorem State.did_restoreFrom_of_first (hph : q.phase = .restoring) (h : FirstRecord Writes x.ctx n m)
    (hk : LowestFree x k) :
    (s.did q.slot (planEffect s q.slot x plan)).restoreFrom q n = s.did q.slot (planEffect s q.slot
      (x.withOpened s.now k (writeBody s x (q.writing x.ctx m).hand)
        (writeSent s x (downstreamTag (x.trk.ort[k]).gen k) (q.writing x.ctx m).hand)) (some (q.writing x.ctx m))) := by
  have hnext : x.ctx.nextForPlan n = some m := find_record_eq_some forPlan_iff h
  have hopens := Slot.planOpens_of_write (s := s) (x := x) (q := q.writing x.ctx m) (k := k) hph rfl
  unfold State.restoreFrom
  dsimp only
  rw [State.did_slot]
  dsimp only [planEffect]
  rw [hnext, ← hopens]
  exact State.did_planIssues (q := q.writing x.ctx m) hk

/-- R126: the slot of a plan that has reached cursor 64. -/
def Slot.restored (x : Slot) (s : State) (q : Plan) : Slot :=
  { x with
    cu := { x.cu with st := .active, period := x.cu.period + 1 }, trk := { x.trk with answered := 0 }, attempt := 0,
    inc := x.inc.file (incidentAt s 1 .recovered .active .none x.port.epoch x.attempt .none
      (some (BitVec.ofNat 32 q.attempt)) (some (BitVec.ofNat 32 q.written)) (some (s.now - q.grantTick))),
    ou := x.ouEnding s.now 4 .done .none (BitVec.ofNat 32 q.attempt) (BitVec.ofNat 32 q.written) (s.now - q.grantTick) }

theorem State.did_planSucceeds (hn : NoneEligible s) :
    (s.did q.slot (planEffect s q.slot x plan)).planSucceeds q = s.did q.slot { planEffect s q.slot (x.restored s q) none with
      attn := s.attn ||| attentionMask q.slot .incident ||| attentionMask q.slot .stateChange ||| doneMask q.slot x 4,
      filed := 1 } := by
  unfold State.planSucceeds
  dsimp only
  rw [State.did_becomeActive, State.did_fileIncident (phase := .none) (State.did_phaseOf (by simp)), State.did_setAttempt,
    State.did_raise, State.did_endOrderOf, State.did_setPlan, State.did_grantIfIdle (.inr hn)]
  rfl

/-- R122, R126: an event in which the plan's cursor moves on. -/
theorem movesOn_of_restoreFrom (hph : q.phase = .restoring) :
    MovesOn s q x n k m (event (fun _ => (s.did q.slot (planEffect s q.slot x plan)).restoreFrom q n) s) := by
  refine ⟨fun h hk => ?first, fun hn h => ?none⟩
  case first =>
    rw [State.did_restoreFrom_of_first hph h hk, event_planEffect]
    rfl
  case none =>
    have hnext : x.ctx.nextForPlan n = none := find_record_eq_none forPlan_iff h
    have hdone : (s.did q.slot (planEffect s q.slot x plan)).restoreFrom q n =
        (s.did q.slot (planEffect s q.slot x plan)).planSucceeds { q with cursor := 64, step := .none, retryLimit := none } := by
      unfold State.restoreFrom
      dsimp only
      rw [State.did_slot]
      dsimp only [planEffect]
      rw [hnext]
    exact event_did (f := fun _ => _) (hdone.trans (State.did_planSucceeds
      (q := { q with cursor := 64, step := .none, retryLimit := none }) hn))

end

/-! ### The end of an attempt (R128 to R130) -/

section
variable {s : State} {x : Slot} {p : Plan} {reason : Reason} {c : Option Dword}

/-- R128: an ATTEMPT_FAILED of a plan whose request is no longer outstanding. -/
def attemptFailed (s : State) (p : Plan) (x : Slot) (reason : Reason) (c : Option Dword) : Effect :=
  { planEffect s p.slot { x with inc := x.inc.file (attemptFailedAt s p x 1 reason c) } (some p) with
    attn := s.attn ||| attentionMask p.slot .incident, filed := 1 }

theorem State.did_fileFailure (hst : x.cu.st = .recovering) (hq : s.queue[p.slot] = none) (hn : NoPlanRequest x) :
    (s.did p.slot (planEffect s p.slot x (some p))).fileFailure p reason c =
      s.did p.slot (attemptFailed s p x reason c) := by
  have hphase : (s.did p.slot (planEffect s p.slot x (some p))).phaseOf p.slot = p.phase.shown :=
    State.did_phaseOf_of_plan (by exact hst) (by exact hq) rfl rfl
  unfold State.fileFailure
  rw [State.endOwner_of_noPlanRequest _ _ (by rw [State.did_slot]; exact hn), State.did_fileIncident hphase]
  unfold attemptFailed attemptFailedAt Plan.recordShown Plan.recordIndex countDword
  dsimp only [planEffect]
  rw [hst]
  rfl

/-- The backoff of a slot that is queued again has not ended at once: it is a millisecond at least (R129). -/
theorem not_reached_of_backoff (now : Tick) {holdMs : Byte} (h : holdMs ≠ 0) (k : Nat) :
    reached now (now + BitVec.ofNat 32 (min (holdMs.toNat * 2 ^ k) 1000 * 1000)) = false := by
  have hpos : 0 < holdMs.toNat * 2 ^ k :=
    Nat.mul_pos (Nat.pos_of_ne_zero fun h0 => h (BitVec.eq_of_toNat_eq h0)) (Nat.two_pow_pos k)
  unfold reached
  rw [decide_eq_false_iff_not, sub_add_cancel_left, BitVec.toNat_neg, BitVec.toNat_ofNat,
    Nat.mod_eq_of_lt (b := 2 ^ 32) (by omega), Nat.mod_eq_of_lt (b := 2 ^ 32) (by omega)]
  omega

/-- R129: the plan's slot goes back to the Recovery Queue, and no entry is eligible. -/
theorem State.did_requeue {e : Effect} (hq : e.queue = s.queue) (hn : NoneEligible s) (hh : e.slot.inForce.holdMs ≠ 0) :
    (s.did p.slot e).requeue p = s.did p.slot { e with
      slot := { e.slot with attempt := p.attempt + 1 }, plan := none,
      queue := s.queue.set p.slot (some {
        level := p.level, attempt := p.attempt + 1, eligible := false,
        earliest := s.now + BitVec.ofNat 32 (min (e.slot.inForce.holdMs.toNat * 2 ^ (p.attempt - 1)) 1000 * 1000) }) } := by
  unfold State.requeue
  dsimp only
  rw [State.did_slot, State.did_setPlan, State.did_setAttempt, State.did_setQueue, hq, State.did_grantIfIdle]
  · rfl
  · refine .inr fun j f hf => ?_
    have hget := (getElem_set_fin s.queue p.slot j _).symm.trans hf
    split at hget
    · cases hget
      exact ⟨rfl, not_reached_of_backoff s.now hh _⟩
    · exact hn j f hget

/-- R130: the plan's slot is retired, and no entry is eligible. -/
theorem State.did_retireAfterFailure {e : Effect} (hq : e.queue = s.queue) (hn : NoneEligible s) (why failure : Reason)
    (b : Dword) :
    (s.did p.slot e).retireAfterFailure p why failure b = s.did p.slot { e with
      slot := { e.slot.asserted with
        cu := { e.slot.cu with st := .retired },
        inc := e.slot.inc.file (incidentAt s (e.filed + 1) .retired .retired .none e.slot.asserted.port.epoch
          e.slot.attempt why (some (BitVec.ofNat 32 p.attempt)) (some b) none),
        ou := e.slot.ouEnding s.now 4 .failed failure (BitVec.ofNat 32 p.attempt) (p.recordShown.getD 64) 0 },
      attn := e.attn ||| attentionMask p.slot .incident ||| attentionMask p.slot .stateChange |||
        doneMask p.slot e.slot 4,
      filed := e.filed + 1, plan := none } := by
  unfold State.retireAfterFailure
  dsimp only
  rw [State.did_setPlan, State.did_assertLine, State.did_setSlotState,
    State.did_fileIncident (phase := .none) (State.did_phaseOf (by simp)), State.did_raise, State.did_endOrderOf,
    State.did_grantIfIdle (.inr (by rw [hq]; exact hn))]
  unfold Slot.ouEnding doneMask Slot.orderOfCode
  dsimp only
  rw [Slot.asserted_cu, Slot.asserted_inc, Slot.asserted_attempt, Slot.asserted_ou]
  rfl

/-- What a retirement makes of a slot does not turn on its incidents (R107). -/
theorem Slot.asserted_of_inc (x : Slot) (inc : IncidentLogic) :
    ({ x with inc := inc } : Slot).asserted = { x.asserted with inc := inc } := by
  rw [x.asserted_of_blocks x.cu x.trk x.ou inc x.attempt, ← Slot.asserted_cu, ← Slot.asserted_trk, ← Slot.asserted_ou,
    ← Slot.asserted_attempt]

/-- R128, R130: a failed attempt for which the slot is retired. -/
theorem event_retired (why : Reason) (b : Dword) (hn : NoneEligible s) :
    event (fun _ => (s.did p.slot (attemptFailed s p x reason c)).retireAfterFailure p why reason b) s =
      .next (retiredAfter s p x 1 reason c why b) := by
  have hattn : s.attn ||| attentionMask p.slot .incident ||| attentionMask p.slot .incident =
      s.attn ||| attentionMask p.slot .incident := by
    rw [BitVec.or_assoc, BitVec.or_self]
  refine (event_did (f := fun _ => _) (State.did_retireAfterFailure (by rfl) hn why reason b)).trans ?_
  dsimp only [attemptFailed, planEffect]
  rw [hattn, Slot.asserted_of_inc]
  rfl

/-- R128 to R130: an event in which an attempt fails for any reason but an identity that differs. -/
theorem attemptEnds_of_failAttempt (hst : x.cu.st = .recovering) (hr : reason ≠ .identityMismatch) :
    AttemptEnds s p x 1 reason c
      (event (fun _ => (s.did p.slot (planEffect s p.slot x (some p))).failAttempt p reason c) s) := by
  intro hq hn hreq
  unfold State.failAttempt
  dsimp only
  rw [State.did_fileFailure hst hq hreq, if_neg hr, State.did_slot]
  refine ⟨fun hlt hh => ?again, fun hle => ?last⟩
  case again =>
    rw [if_pos (by exact hlt)]
    exact event_did (f := fun _ => _) (State.did_requeue (by rfl) hn (by exact hh))
  case last =>
    rw [if_neg (by exact Nat.not_lt.mpr hle)]
    exact event_retired _ _ hn

/-- R121, R130: an identity that differs retires the slot. -/
theorem event_identityMismatch {v : Dword} (hst : x.cu.st = .recovering) (hq : s.queue[p.slot] = none)
    (hn : NoneEligible s) (hreq : NoPlanRequest x) :
    event (fun _ => (s.did p.slot (planEffect s p.slot x (some p))).failAttempt p .identityMismatch (some v)) s =
      .next (retiredAfter s p x 1 .identityMismatch (some v) .identityMismatch v) := by
  unfold State.failAttempt
  dsimp only
  rw [State.did_fileFailure hst hq hreq, if_pos rfl]
  exact event_retired _ _ hn

end

end Sys2Proof.Machine

/-! PROOF. The retry tick, and the results of a plan's requests (R32, R120 to R126). -/

namespace Sys2Proof.Machine

open Sys2Proof

section
variable {s : State} {p : Plan} {x : Slot} {b : OrtBody} {c : Completion} {j k : Fin 32} {m : Fin 64}

/-! ### The retry tick (R120, R125) -/

/-- R132: with no stop request the plan's next event takes its course. -/
theorem State.planEvent_of_not_stopped (hstop : p.stop = false) (s : State) (act : Plan → State → State) :
    s.planEvent p act = act p s := by
  unfold State.planEvent
  rw [hstop, if_neg Bool.false_ne_true]

theorem State.did_planEffect_self (hp : s.plan = some p) :
    s.did p.slot (planEffect s p.slot s.slots[p.slot] (some p)) = s := by
  unfold planEffect
  rw [← hp]
  exact s.did_none p.slot

theorem retryTickExpiry_of_not_reached (hp : s.plan = some p) (h : p.retryTick.any (reached s.now) = false) :
    exec .retryTickExpiry s = .next s := by
  refine event_next_self (s := s) (f := fun s => s.onPlanTimer (·.retryTick) fun p s => s.retryRequest p) ?_
  unfold State.onPlanTimer due
  rw [hp]
  dsimp only
  rw [h, if_neg Bool.false_ne_true]

theorem retryTickExpiry_of_reached (hp : s.plan = some p) (h : p.retryTick.any (reached s.now) = true)
    (hstop : p.stop = false) (hk : LowestFree s.slots[p.slot] k) :
    exec .retryTickExpiry s = .next { slotAfter s p.slot
      ((s.slots[p.slot]).planOpens s { p with retryTick := none } k) s.attn 0 [] with
      plan := some { p with retryTick := none } } := by
  have hretry : s.onPlanTimer (·.retryTick) (fun p s => s.retryRequest p) =
      (s.did p.slot (planEffect s p.slot s.slots[p.slot] (some p))).planIssues { p with retryTick := none } := by
    rw [State.did_planEffect_self hp]
    unfold State.onPlanTimer due
    rw [hp]
    dsimp only
    rw [h, if_pos rfl, State.planEvent_of_not_stopped hstop]
    rfl
  exact (event_congr (s := s) (f := fun s => s.onPlanTimer (·.retryTick) fun p s => s.retryRequest p) (g := fun _ => _) (hretry.trans
    (State.did_planIssues (q := { p with retryTick := none }) hk))).trans (event_planEffect s p.slot _ _)

/-! ### A plan's request closes (R32) -/

/-- The plan takes the result of its request in SETTLING or RESTORING. -/
def State.takesResult (s : State) (p : Plan) (result : RequestResult) : State :=
  match p.phase with
  | .settling => s.settlingResult p result
  | .restoring => s.restoringResult p result
  | .resetHold => s
  | .training => s

theorem exec_planCompletion (hp : s.plan = some p) (hb : ((s.slots[p.slot]).trk.ort[j]).body = some b)
    (ho : b.origin = .controller .plan) (hstop : p.stop = false) (hst : (s.slots[p.slot]).cu.st = .recovering)
    (hcl : closesEntry b c = true) (hx : excessBytes b c = 0) :
    exec (.cardCompletion p.slot { c with tag := downstreamTag ((s.slots[p.slot]).trk.ort[j]).gen j }) s =
      event (fun _ => (s.did p.slot (planEffect s p.slot ((s.slots[p.slot]).withoutEntry j) (some p))).takesResult p
        (controllerResult b c)) s := by
  have hactive : (s.slots[p.slot]).cu.st ≠ .active := fun h => absurd (hst.symm.trans h) (by decide)
  rw [exec_cardCompletion_of_match hb c, State.takeMatched_of_controller _ ho hcl hx,
    State.did_freeEntry (fun h => absurd h hactive), hst]
  have heffect : { Effect.none s p.slot with slot := (s.slots[p.slot]).withoutEntry j } =
      planEffect s p.slot ((s.slots[p.slot]).withoutEntry j) (some p) := by
    unfold planEffect
    rw [← hp]
    rfl
  have hresult : (s.did p.slot (planEffect s p.slot ((s.slots[p.slot]).withoutEntry j) (some p))).ownerResult p.slot .plan
      (controllerResult b c) = (s.did p.slot (planEffect s p.slot ((s.slots[p.slot]).withoutEntry j) (some p))).takesResult p
        (controllerResult b c) := by
    unfold State.ownerResult State.planResult
    have hplan : (s.did p.slot (planEffect s p.slot ((s.slots[p.slot]).withoutEntry j) (some p))).plan = some p := rfl
    dsimp only
    rw [hplan]
    dsimp only
    rw [if_pos rfl, State.planEvent_of_not_stopped hstop]
    rfl
  exact event_congr (s := s) (f := fun _ => _) (g := fun _ => _)
    ((congrArg (fun e => (s.did p.slot e).ownerResult p.slot .plan (controllerResult b c)) heffect).trans hresult)

/-- R32: the status that a plan's request is refused with. -/
theorem controllerResult_of_refused (hc : c.status ≠ .success) : controllerResult b c = .refused c.status := by
  unfold controllerResult
  split
  · next h => exact absurd h hc
  · rfl

theorem controllerResult_of_success (hc : c.status = .success) :
    controllerResult b c = .success (ofLeBytes 32 4 (gatheredWith b c)) := by
  unfold controllerResult
  rw [hc]

/-! ### What the plan makes of a result (R121, R123 to R125) -/

/-- An event in which the plan takes a new value and the slot is `x`. -/
theorem event_setPlan {i : SlotId} {plan : Option Plan} (q : Plan) :
    event (fun _ => (s.did i (planEffect s i x plan)).setPlan (some q)) s =
      .next { s with slots := s.slots.set i x, plan := some q } := by
  refine (event_planEffect s i x (some q)).trans ?_
  rw [slotAfter_of_kept]

/-- R125: an event in which the record in hand of plan `q` is done. -/
theorem goesOn_of_recordDone {q : Plan} {plan : Option Plan} {run : Host.Outcome State Fault Refusal}
    (hph : q.phase = .restoring)
    (hrun : run = event (fun _ => (s.did q.slot (planEffect s q.slot x plan)).recordDone q) s) :
    (q.hand.delay = 0 → MovesOn s q x (q.cursor + 1) k m run) ∧
      (q.hand.delay ≠ 0 → run = .next { s with
        slots := s.slots.set q.slot x,
        plan := some { q with
          step := .none, retryLimit := none, delayTick := some (s.now + BitVec.ofNat 32 (q.hand.delay * 100)) } }) := by
  unfold State.recordDone at hrun
  refine ⟨fun hd => ?next, fun hd => ?delay⟩
  case next =>
    rw [hrun, if_pos hd]
    exact movesOn_of_restoreFrom (q := q) hph
  case delay =>
    rw [hrun, if_neg hd]
    exact event_setPlan _

theorem takesResult_of_settling (h : p.phase = .settling) (s : State) (r : RequestResult) :
    s.takesResult p r = s.settlingResult p r := by
  unfold State.takesResult
  rw [h]

theorem takesResult_of_restoring (h : p.phase = .restoring) (s : State) (r : RequestResult) :
    s.takesResult p r = s.restoringResult p r := by
  unfold State.takesResult
  rw [h]

theorem takesResult_of_settling_success (h : p.phase = .settling) (s : State) (v : Dword) :
    s.takesResult p (.success v) = s.identityAnswered p v :=
  takesResult_of_settling h s _

theorem takesResult_of_settling_refused (h : p.phase = .settling) (s : State) (status : CplStatus) :
    s.takesResult p (.refused status) = s.setPlan (some { p with
      retryTick := some (after s.now (s.slots[p.slot]).inForce.settleRetryUs.toNat) }) :=
  takesResult_of_settling h s _

theorem takesResult_of_restoring_success (h : p.phase = .restoring) (s : State) (v : Dword) :
    s.takesResult p (.success v) = s.recordAnswered p v :=
  takesResult_of_restoring h s _

theorem takesResult_of_restoring_notReady (h : p.phase = .restoring) (s : State) :
    s.takesResult p (.refused .notReady) = s.retryRecord p :=
  takesResult_of_restoring h s _

/-- R125, R128: a record's request is answered UNSUPPORTED or ABORT. -/
theorem takesResult_of_restoring_rejected {status : CplStatus} (h : p.phase = .restoring)
    (hc : status = .unsupported ∨ status = .abort) (s : State) : s.takesResult p (.refused status) =
      s.failAttempt p .restoreRejected (some ((statusCode status).setWidth 32)) := by
  rw [takesResult_of_restoring h]
  rcases hc with rfl | rfl <;> rfl

theorem identityAnswered_of_agrees {v : Dword} (h : x.ctx.header.identityValid = 0 ∨ v = x.ctx.header.identity) :
    (s.did p.slot (planEffect s p.slot x (some p))).identityAnswered p v =
      (s.did p.slot (planEffect s p.slot x (some p))).restoreFrom { p with phase := .restoring, settleLimit := none } 0 := by
  unfold State.identityAnswered
  dsimp only
  rw [State.did_slot]
  exact if_neg fun hne => h.elim (fun h0 => hne.1 h0) fun h0 => hne.2 h0

theorem identityAnswered_of_differs {v : Dword} (h0 : x.ctx.header.identityValid ≠ 0) (h : v ≠ x.ctx.header.identity) :
    (s.did p.slot (planEffect s p.slot x (some p))).identityAnswered p v =
      (s.did p.slot (planEffect s p.slot x (some p))).failAttempt p .identityMismatch (some v) := by
  unfold State.identityAnswered
  dsimp only
  rw [State.did_slot]
  exact if_pos ⟨h0, h⟩

/-- R123: the restore write succeeded. -/
theorem recordAnswered_of_write (h : p.step = .write) (s : State) (v : Dword) : s.recordAnswered p v =
    if p.hand.verify then s.planIssues { p with written := p.written + 1, step := .verify }
    else s.recordDone { p with written := p.written + 1 } := by
  unfold State.recordAnswered
  rw [if_pos h]

/-- R124: the verify read succeeded. -/
theorem recordAnswered_of_verify (h : p.step = .verify) (s : State) (v : Dword) : s.recordAnswered p v =
    if (v ^^^ p.hand.value) &&& p.hand.verifyMask = 0 then s.recordDone p
    else s.failAttempt p .verifyMismatch (some v) := by
  unfold State.recordAnswered
  rw [if_neg (by rw [h]; decide)]

/-! ### The completions of a plan's request -/

section
variable (hp : s.plan = some p) (hb : ((s.slots[p.slot]).trk.ort[j]).body = some b) (ho : b.origin = .controller .plan)
  (hstop : p.stop = false) (hst : (s.slots[p.slot]).cu.st = .recovering)

include hp hb ho hstop hst

theorem exec_planRead (hc : c.status = .success) (hn : bytesCarried c = 4) (h4 : b.bytesOwed = 4) (hg : b.gathered = []) :
    exec (.cardCompletion p.slot { c with tag := downstreamTag ((s.slots[p.slot]).trk.ort[j]).gen j }) s =
      event (fun _ => (s.did p.slot (planEffect s p.slot ((s.slots[p.slot]).withoutEntry j) (some p))).takesResult p
        (.success (ofLeBytes 32 4 ((carriedStream c).take 4)))) s := by
  have hall : bytesCarried c = b.bytesOwed := hn.trans h4.symm
  rw [← controllerResult_of_read ho hc hg hn h4]
  exact exec_planCompletion hp hb ho hstop hst (closed_of_all hall).2 (excessBytes_of_le (Nat.le_of_eq hall))

theorem exec_planWrite (hc : c.status = .success) (hd : c.data = []) (h0 : b.bytesOwed = 0) :
    exec (.cardCompletion p.slot { c with tag := downstreamTag ((s.slots[p.slot]).trk.ort[j]).gen j }) s =
      event (fun _ => (s.did p.slot (planEffect s p.slot ((s.slots[p.slot]).withoutEntry j) (some p))).takesResult p
        (.success (ofLeBytes 32 4 (gatheredWith b c)))) s := by
  have hall : bytesCarried c = b.bytesOwed := (bytesCarried_of_no_data hd).trans h0.symm
  rw [← controllerResult_of_success hc]
  exact exec_planCompletion hp hb ho hstop hst (closed_of_all hall).2 (excessBytes_of_le (Nat.le_of_eq hall))

theorem exec_planRefused (hc : c.status ≠ .success) (hd : c.data = []) :
    exec (.cardCompletion p.slot { c with tag := downstreamTag ((s.slots[p.slot]).trk.ort[j]).gen j }) s =
      event (fun _ => (s.did p.slot (planEffect s p.slot ((s.slots[p.slot]).withoutEntry j) (some p))).takesResult p
        (.refused c.status)) s := by
  have hle : bytesCarried c ≤ b.bytesOwed := bytesCarried_of_no_data hd ▸ Nat.zero_le _
  rw [← controllerResult_of_refused (b := b) hc]
  exact exec_planCompletion hp hb ho hstop hst (closed_of_error hc).2 (excessBytes_of_le hle)

end

/-- Settles O48: the plan's request is issued again at the retry tick, and a completion that closes it gives the plan its
result, which each step of SETTLING and RESTORING takes in its own way. -/
theorem retryTickExpiry : Obligations.RetryTickExpiry := by
  intro k j m c s p hp i sl issues retry retried
  refine ⟨fun h => retryTickExpiry_of_not_reached hp h, fun h hstop hk => ?reissue, ?result⟩
  case reissue =>
    have hretry := retryTickExpiry_of_reached hp h hstop hk
    refine ⟨fun hph => ?_, fun hph hstep => ?_, fun hph hstep => ?_⟩
    · rw [Slot.planOpens_of_settling (q := retried) hph] at hretry
      exact hretry
    · rw [Slot.planOpens_of_write (q := retried) hph hstep] at hretry
      exact hretry
    · rw [Slot.planOpens_of_verify (q := retried) hph hstep] at hretry
      exact hretry
  case result =>
    intro b hb ho hstop hst run x v gotValue gotWrite retryTick keeps goesOn wrote
    have hx : x.cu.st = .recovering := hst
    have hvalue : gotValue → run = _ := fun ⟨hc, hn, h4, hg⟩ => exec_planRead hp hb ho hstop hst hc hn h4 hg
    have hwrite : gotWrite → run = _ := fun ⟨hc, hd, h0⟩ => exec_planWrite hp hb ho hstop hst hc hd h0
    have hrefused : c.status ≠ .success → c.data = [] → run = _ := exec_planRefused hp hb ho hstop hst
    refine ⟨fun hph hgot hid => ?agrees, fun hph hgot hvalid hid hq hn hreq => ?differs, fun hph hc hd => ?settlingRefused,
      fun hph hstep hgot => ⟨fun hv hk => ?verifies, fun hv => ?written⟩,
      fun hph hstep hgot => ⟨fun hm => ?verified, fun hm => ?mismatch⟩, fun hph hc hd => ?notReady,
      fun hph hc hd => ?rejected⟩
    case agrees =>
      rw [hvalue hgot, takesResult_of_settling_success hph, identityAnswered_of_agrees (by exact hid)]
      exact movesOn_of_restoreFrom (q := { p with phase := .restoring, settleLimit := none }) rfl
    case differs =>
      rw [hvalue hgot, takesResult_of_settling_success hph, identityAnswered_of_differs (by exact hvalid) (by exact hid)]
      exact event_identityMismatch hx hq hn hreq
    case settlingRefused =>
      rw [hrefused hc hd, takesResult_of_settling_refused hph, State.did_slot]
      exact event_setPlan _
    case verifies =>
      have hissue := State.did_planIssues (s := s) (plan := some p) (q := { wrote with step := .verify }) hk
      rw [Slot.planOpens_of_verify (by exact hph) rfl] at hissue
      rw [hwrite hgot, takesResult_of_restoring_success hph, recordAnswered_of_write hstep, if_pos hv]
      exact (congrArg (fun t => event (fun _ => t) s) hissue).trans (event_planEffect s p.slot _ _)
    case written =>
      refine goesOn_of_recordDone (q := wrote) (plan := some p) hph ?_
      rw [hwrite hgot, takesResult_of_restoring_success hph, recordAnswered_of_write hstep, if_neg (by rw [hv]; decide)]
      rfl
    case verified =>
      refine goesOn_of_recordDone (plan := some p) hph ?_
      rw [hvalue hgot, takesResult_of_restoring_success hph, recordAnswered_of_verify hstep, if_pos hm]
      rfl
    case mismatch =>
      rw [hvalue hgot, takesResult_of_restoring_success hph, recordAnswered_of_verify hstep, if_neg hm]
      exact attemptEnds_of_failAttempt hx (by decide)
    case notReady =>
      rw [hrefused (by rw [hc]; decide) hd, hc, takesResult_of_restoring_notReady hph]
      unfold State.retryRecord
      dsimp only
      rw [State.did_slot]
      exact event_setPlan _
    case rejected =>
      rw [hrefused (by rcases hc with h | h <;> rw [h] <;> decide) hd, takesResult_of_restoring_rejected hph hc]
      exact attemptEnds_of_failAttempt hx (by decide)

end

end Sys2Proof.Machine

/-! PROOF. A step on an empty queue (R43, R99). -/

namespace Sys2Proof.Machine

open Sys2Proof

section
variable {s : State}

theorem step_of_due {c : Instr} (hq : s.pending = []) (hc : s.nextDue = some c) : step s = exec c s := by
  unfold step
  rw [hq]
  dsimp only
  rw [hc]

theorem step_of_none_due (hq : s.pending = []) (hn : s.nextDue = none) : step s = .next s.tick := by
  unfold step
  rw [hq]
  dsimp only
  rw [hn]

/-- R99: one microsecond runs off every sample timer. -/
theorem State.tick_slot (s : State) (i : SlotId) : s.tick.slots[i] =
    { s.slots[i] with port := { (s.slots[i]).port with sampleTimer := (s.slots[i]).port.sampleTimer - 1 } } :=
  getElem_mapVector _ _ i

/-- Settles O2: a step on an empty queue is the event that is due, or `State.tick`. -/
theorem stepOnAnEmptyQueue : Obligations.StepOnAnEmptyQueue := fun s hq =>
  ⟨fun _ hc => step_of_due hq hc, fun hn => ⟨s.tick, step_of_none_due hq hn, rfl, s.tick_slot⟩⟩

end

end Sys2Proof.Machine

/-! PROOF. The deadline computation (R45, R46) and the commands that use it. -/

namespace Sys2Proof.Machine

open Sys2Proof

section
variable {s : State} {i : SlotId}

/-! ### The five stages (R46) -/

/-- R46: the window keeps within the stages for a base window and a pace as wide as their cells, a stretch of 3 at most and
a length of 1,024 dwords at most. -/
theorem deadlineStages_of_window {b l p e c : Nat} (hb : 1 ≤ b) (hb' : b ≤ 65535) (hl : l ≤ 1024) (hp : p ≤ 255) (he : e ≤ 3)
    (hc : 16 ≤ c) (hc' : c < 2 ^ 32) (now : Tick) :
    DeadlineStages b l p e c now (now + BitVec.ofNat 32 (windowUs b l p e c)) := by
  have hlp : l * p ≤ 1024 * 255 := Nat.mul_le_mul hl hp
  have hpow : 1 ≤ 2 ^ e := Nat.one_le_two_pow
  have hpow' : 2 ^ e ≤ 2 ^ 3 := Nat.pow_le_pow_right (by decide) he
  have hraw : 1 ≤ b + (l * p + 999) / 1000 := by omega
  have hraw' : b + (l * p + 999) / 1000 ≤ 65797 := by omega
  have hwindow : windowUs b l p e c = max 16 (min ((b + (l * p + 999) / 1000) * 2 ^ e) c) := rfl
  refine ⟨(l * p + 999) / 1000, b + (l * p + 999) / 1000, (b + (l * p + 999) / 1000) * 2 ^ e, windowUs b l p e c,
    ⟨by omega, by omega, by omega⟩, ⟨rfl, hraw, hraw'⟩,
    ⟨rfl, Nat.mul_le_mul hraw hpow, Nat.mul_le_mul hraw' hpow'⟩, ?window, by omega, by omega, ?deadline⟩
  case window =>
    rw [hwindow]
    split <;> omega
  case deadline =>
    rw [BitVec.toNat_add, BitVec.toNat_ofNat, Nat.add_mod_mod]

/-- R46: with the settings in force within their ranges the stages hold for the window of either deadline class. -/
theorem SettingsInv.deadlineStages (h : SettingsInv s) (i : SlotId) (isCfg : Bool) {l : Nat} (hl : l ≤ 1024) :
    let f := (s.slots[i]).inForce
    let base := if isCfg = true then f.windowConfigUs.toNat else f.windowReadUs.toNat
    DeadlineStages base l f.paceNs.toNat f.stretch.toNat s.device.ceilingUs.toNat s.now
      (s.now + BitVec.ofNat 32 (windowUs base l f.paceNs.toNat f.stretch.toNat s.device.ceilingUs.toNat)) := by
  intro f base
  obtain ⟨hread, hcfg⟩ := h.windows i
  have hread' := f.windowReadUs.isLt
  have hcfg' := f.windowConfigUs.isLt
  have hpace := f.paceNs.isLt
  have hbase : 1 ≤ base ∧ base ≤ 65535 := by
    unfold base
    split
    · exact ⟨hcfg, by omega⟩
    · exact ⟨hread, by omega⟩
  have hceiling := h.ceiling.1
  exact deadlineStages_of_window hbase.1 hbase.2 hl (by omega) (h.stretch i) (by omega) s.device.ceilingUs.isLt s.now

/-! ### The entries that are opened under such a deadline -/

theorem slotAfter_slot (s : State) (i : SlotId) (sl : Slot) (attn : BitVec 24) (filed : Nat) (sent : List HostPacket) :
    (slotAfter s i sl attn filed sent).slots[i] = sl := by
  unfold slotAfter
  rw [withInterrupt_slots]
  exact (getElem_set_fin _ _ _ _).trans (if_pos rfl)

theorem Slot.withOpened_body (sl : Slot) (now : Tick) (k : Fin 32) (b : OrtBody) (q : NonPosted) :
    ((sl.withOpened now k b q).trk.ort[k]).body = some b := by
  unfold Slot.withOpened
  dsimp only
  rw [getElem_set_fin, if_pos rfl]

/-- A slot left by a command that opens entry `k` with fields `b` holds them there. -/
theorem opened_body {run : Host.Outcome State Fault Refusal} {sl : Slot} {k : Fin 32} {b : OrtBody} {q : NonPosted}
    {attn : BitVec 24} {filed : Nat} {sent : List HostPacket}
    (h : run = .next (slotAfter s i (sl.withOpened s.now k b q) attn filed sent)) :
    ∃ t, run = .next t ∧ ((t.slots[i]).trk.ort[k]).body = some b :=
  ⟨_, h, by rw [slotAfter_slot, Slot.withOpened_body]⟩

/-- R153: a slot whose Order Unit has taken a CAPTURE order. -/
def Slot.captureTaken (sl : Slot) (number : BitVec 16) (priority : Byte) : Slot :=
  { sl with ou := sl.ou.begun 2 number priority (orderLevel priority sl.inForce) sl.cu.st }

/-- R24, R140: a CAPTURE order in ACTIVE with an entry FREE opens it for the identity read. -/
theorem exec_orderCapture_of_free {k : Fin 32} (number : BitVec 16) (priority : Byte)
    (ho : (s.slots[i]).ou.cell.owner = .software) (hst : (s.slots[i]).cu.st = .active) (hk : LowestFree s.slots[i] k) :
    exec (.orderCapture i number priority) s = .next (slotAfter s i
      ({ (s.slots[i]).captureTaken number priority with capture := some Capture.start }.withOpened s.now k (readBody s s.slots[i] .capture 0)
        (readSent s s.slots[i] (downstreamTag ((s.slots[i]).trk.ort[k]).gen k) 0))
      (s.attn &&& ~~~ attentionMask i .orderDone) 0 []) := by
  have htaken : s.handOver i 2 number priority =
      (s.did i { Effect.none s i with
        slot := (s.slots[i]).captureTaken number priority,
        attn := s.attn &&& ~~~ attentionMask i .orderDone }).orderCapture i := by
    rw [handOver_of_software s i 2 number priority ho]
    simp only [State.did, Effect.none, BitVec.add_zero, List.append_nil]
    rfl
  unfold State.orderCapture State.startCapture at htaken
  rw [State.did_slot, if_pos (by exact hst), State.did_setCapture, State.did_issueController _ (by exact hk)] at htaken
  exact event_did (f := fun s => s.handOver i 2 number priority) htaken

/-- Settles O56: each of the deadlines is the one window of R46 added to NOW, and the settings in force bound its stages. -/
theorem deadlinesComputed : Obligations.DeadlinesComputed := by
  intro i k q number priority s sl f hs
  refine ⟨fun isCfg l _ hl => hs.deadlineStages i isCfg hl, fun hst hk hq ht hh _ hl => ?host, fun hst hk ho => ?capture⟩
  case host =>
    obtain ⟨t, ht, hb⟩ := opened_body (hostRequestOpensEntry i k q s hq ht hst hh hk)
    exact ⟨t, ht, _, hb, rfl, hs.deadlineStages i (isConfig q) hl⟩
  case capture =>
    obtain ⟨t, ht, hb⟩ := opened_body (exec_orderCapture_of_free number priority ho hst hk)
    exact ⟨t, ht, _, hb, rfl, hs.deadlineStages i true (by decide)⟩

end

end Sys2Proof.Machine

/-! PROOF. The expiries of a held item, of the Progress Watch and of a Return Map entry (R49, R51, R52, R59, R95). -/

namespace Sys2Proof.Machine

open Sys2Proof

section
variable {s : State} {i : SlotId}

/-! ### A held item (R49) -/

theorem exec_heldItemExpiry_of_none {position : Nat} (h : s.expiredHeld i position = none) :
    exec (.heldItemExpiry i position) s = .next s := by
  refine (event_next_self s ?_ : execHeldItemExpiry i position s = .next s)
  rw [h]

theorem exec_heldItemExpiry_of_some {position : Nat} {h : HoldItem} (hx : s.expiredHeld i position = some h) :
    exec (.heldItemExpiry i position) s = event (fun s => s.expireHeld i position h) s := by
  refine (event_congr s ?_ : execHeldItemExpiry i position s = _)
  rw [hx]

theorem State.expiredHeld_of_held {position : Nat} {h : HoldItem} (hh : (s.slots[i]).trk.hold[position]? = some h) :
    s.expiredHeld i position = if reached s.now h.body.deadline = true then some h else none := by
  rw [State.expiredHeld, hh, Option.filter_some]

theorem not_recovering_of_active {st : SlotState} (h : st = .active) : st ≠ .recovering := by
  rw [h]
  decide

/-- R49, R51: a slot in which the held item `h` at `position` has expired, once the expiry has been reported. -/
def Slot.heldExpired (sl : Slot) (s : State) (position : Nat) (h : HoldItem) : Slot :=
  { sl with
    trk := { sl.trk with hold := sl.trk.hold.eraseIdx position },
    ctr := { sl.ctr with
      standinsIssued := satAdd sl.ctr.standinsIssued (h.body.standIns sl.inForce.standinMode).length,
      timeouts := if sl.ctr.timeouts = 0xFFFFFFFF then sl.ctr.timeouts else sl.ctr.timeouts + 1 },
    inc := sl.inc.file (incidentAt s 1 .requestTimeout .active .none sl.port.epoch sl.attempt .held (some 32)
      (some (BitVec.ofNat 32 h.body.bytesOwed)) (some (h.body.deadline - h.body.arrival))) }

/-- R49, R51: the expiry of a held item of an ACTIVE slot, up to what follows it. -/
theorem State.expireHeld_of_active (position : Nat) (h : HoldItem) (hst : (s.slots[i]).cu.st = .active)
    (hl : s.withheld ≠ some i) : s.expireHeld i position h =
      (s.did i (expiryDone s i h.body ((s.slots[i]).heldExpired s position h))).applyTimeoutAction i := by
  have hactive : (expiryAnswered s i h.body).slot.cu.st = .active := hst
  unfold State.expireHeld State.settleHeld
  rw [State.sendStandIns_of_expired, State.did_onTracker, State.did_retakeFor hl,
    State.did_reportExpiry (by exact not_recovering_of_active hst), hst, hactive]
  rfl

/-- Settles O43: the item is answered and removed, the expiry is reported, and timeout_action 0 reports a trigger. -/
theorem heldItemExpiry : Obligations.HeldItemExpiry := by
  intro i position s sl run
  refine ⟨fun hh => ?free, fun h hh => ⟨fun hr => ?early, fun hr hst hl ha => ?expired⟩⟩
  case free =>
    refine exec_heldItemExpiry_of_none ?_
    rw [State.expiredHeld, hh, Option.filter_none]
  case early =>
    refine exec_heldItemExpiry_of_none ?_
    rw [State.expiredHeld_of_held hh, hr, if_neg Bool.false_ne_true]
  case expired =>
    have hx : s.expiredHeld i position = some h := by rw [State.expiredHeld_of_held hh, if_pos hr]
    have hdone := State.expireHeld_of_active position h hst hl
    rw [State.did_applyTimeoutAction, if_pos (by exact ha), State.did_reportTrigger] at hdone
    exact (exec_heldItemExpiry_of_some hx).trans (event_did (f := fun s => s.expireHeld i position h) hdone)

/-! ### The filing of an incident first of all -/

/-- R170, R171: an event that begins with the filing of an incident. -/
theorem State.fileIncident_eq_did (s : State) (i : SlotId) (kind : IncidentKind) (reason : Reason) (a b c : Option Dword) :
    s.fileIncident i kind reason a b c = s.did i { Effect.none s i with
      slot := { s.slots[i] with
        inc := (s.slots[i]).inc.file (incidentAt s 1 kind (s.slots[i]).cu.st (s.phaseOf i) (s.slots[i]).port.epoch
          (s.slots[i]).attempt reason a b c) },
      attn := s.attn ||| attentionMask i .incident, filed := 1 } := by
  have hdone := State.did_fileIncident (s := s) (i := i) (e := Effect.none s i) rfl kind reason a b c
  rw [State.did_none] at hdone
  exact hdone

/-! ### The Progress Watch (R59) -/

theorem exec_progressWatchExpiry_of_not_due (h : (s.slots[i]).trk.watch.isDue s.now = false) :
    exec (.progressWatchExpiry i) s = .next s :=
  (event_next_self s (if_neg (ne_true_of_eq_false h)) : execProgressWatchExpiry i s = .next s)

theorem exec_progressWatchExpiry_of_due (h : (s.slots[i]).trk.watch.isDue s.now = true) :
    exec (.progressWatchExpiry i) s = event (fun s => s.expireWatch i) s :=
  (event_congr s (if_pos h) : execProgressWatchExpiry i s = _)

theorem Tracker.oldest_of_head {t : Tracker} {k : Fin 32} {b : OrtBody} (hk : t.age.head? = some k)
    (hb : (t.ort[k]).body = some b) : t.oldest = (k.val, b.bytesOwed) := by
  obtain ⟨rest, hage⟩ := List.head?_eq_some_iff.mp hk
  unfold Tracker.oldest
  rw [hage]
  dsimp only
  rw [hb]
  rfl

/-- R59: what the expiry of the watch of an ACTIVE slot has done. -/
theorem State.expireWatch_of_active {k : Fin 32} {b : OrtBody} (hst : (s.slots[i]).cu.st = .active)
    (hk : (s.slots[i]).trk.age.head? = some k) (hb : ((s.slots[i]).trk.ort[k]).body = some b) :
    let sl := s.slots[i]
    s.expireWatch i = s.did i { Effect.none s i with
      slot := { sl with
        trk := { sl.trk with watch := .expired },
        cu := { sl.cu with triggers := sl.cu.triggers ++ [{ cause := .stall, period := sl.cu.period }] },
        inc := sl.inc.file (incidentAt s 1 .stall .active .none sl.port.epoch sl.attempt .none
          (some (BitVec.ofNat 32 sl.trk.openCount)) (some (BitVec.ofNat 32 k.val))
          (some (BitVec.ofNat 32 b.bytesOwed))) },
      attn := s.attn ||| attentionMask i .incident, filed := 1 } := by
  unfold State.expireWatch
  dsimp only
  rw [Tracker.oldest_of_head hk hb, State.onTracker_eq, State.onSlot_eq_did,
    State.did_fileIncident (phase := .none) (State.did_phaseOf (not_recovering_of_active hst)), State.did_reportTrigger, ← hst]
  rfl

/-! ### A Return Map entry (R95) -/

theorem exec_returnLifetimeExpiry_of_none {k : Fin 16} (h : s.expiredReturn i k = none) :
    exec (.returnLifetimeExpiry i k) s = .next s := by
  refine (event_next_self s ?_ : execReturnLifetimeExpiry i k s = .next s)
  rw [h]

theorem exec_returnLifetimeExpiry_of_some {k : Fin 16} {b : ReturnBody} (h : s.expiredReturn i k = some b) :
    exec (.returnLifetimeExpiry i k) s = event (fun s => s.expireReturn i k b) s := by
  refine (event_congr s ?_ : execReturnLifetimeExpiry i k s = _)
  rw [h]

theorem State.expiredReturn_of_open {k : Fin 16} {b : ReturnBody} (hb : ((s.slots[i]).rmap[k]).body = some b) :
    s.expiredReturn i k = if reached s.now b.expiry = true then some b else none := by
  rw [State.expiredReturn, hb, Option.filter_some]

/-- R94, R95: what the lifetime expiry of an entry has done where no card read waits for one. -/
theorem State.expireReturn_of_no_read {k : Fin 16} {b : ReturnBody} (hw : (s.slots[i]).port.waitingRead = none) :
    let sl := s.slots[i]
    s.expireReturn i k b = s.did i { Effect.none s i with
      slot := { sl with
        rmap := sl.rmap.set k { gen := (sl.rmap[k]).gen + 1, body := none },
        inc := sl.inc.file (incidentAt s 1 .returnExpired sl.cu.st (s.phaseOf i) sl.port.epoch sl.attempt
          (if b.bytesOwed = b.bytesRequested then .unanswered else .partly) (some (BitVec.ofNat 32 k.val))
          (some (BitVec.ofNat 32 b.bytesOwed)) (some (b.tag.setWidth 32))) },
      attn := s.attn ||| attentionMask i .incident, filed := 1 } := by
  unfold State.expireReturn State.freeReturn
  rw [State.fileIncident_eq_did, State.did_onSlot, State.handOverRead_of_none (by rw [State.did_slot]; exact hw)]
  rfl

/-- Settles O45: an expiry that is due does what `State.expireWatch` or `State.expireReturn` does, any other nothing. -/
theorem watchAndReturnExpiry : Obligations.WatchAndReturnExpiry := by
  intro i k oldest s sl watch ret phase
  refine ⟨fun hw => ?notArmed, fun d hw => ⟨fun hr => ?watchEarly, fun hr hst hk b hb => ?stall⟩, fun hb => ?returnFree,
    fun b hb => ⟨fun hr => ?returnEarly, fun hr hread => ?returnExpired⟩⟩
  case notArmed =>
    refine exec_progressWatchExpiry_of_not_due ?_
    rcases hw with hw | hw <;> rw [hw] <;> rfl
  case watchEarly =>
    refine exec_progressWatchExpiry_of_not_due ?_
    rw [hw]
    exact hr
  case stall =>
    have hdue : (s.slots[i]).trk.watch.isDue s.now = true := by
      rw [hw]
      exact hr
    exact (exec_progressWatchExpiry_of_due hdue).trans
      (event_did (f := fun s => s.expireWatch i) (State.expireWatch_of_active hst hk hb))
  case returnFree =>
    refine exec_returnLifetimeExpiry_of_none ?_
    rw [State.expiredReturn, hb, Option.filter_none]
  case returnEarly =>
    refine exec_returnLifetimeExpiry_of_none ?_
    rw [State.expiredReturn_of_open hb, hr, if_neg Bool.false_ne_true]
  case returnExpired =>
    have hx : s.expiredReturn i k = some b := by rw [State.expiredReturn_of_open hb, if_pos hr]
    exact (exec_returnLifetimeExpiry_of_some hx).trans
      (event_did (f := fun s => s.expireReturn i k b) (State.expireReturn_of_no_read hread))

end

end Sys2Proof.Machine

/-! PROOF. The expiry of an entry of the controller's own (R44, R50 to R52, R128, R129, R141 to R146). -/

namespace Sys2Proof.Machine

open Sys2Proof

section
variable {s : State} {i : SlotId} {e : Effect} {k : Fin 32} {b : OrtBody} {o : RequestOwner}

/-! ### The entry that expires (R50, R51) -/

theorem State.expiredController_of_open (hb : ((s.slots[i]).trk.ort[k]).body = some b) (ho : b.origin = .controller o) :
    s.expiredController i k = if reached s.now b.deadline = true then some (o, b) else none := by
  rw [State.expiredController, hb, Option.filter_some]
  split
  · rw [Option.bind_some, ho]
  · rfl

theorem exec_controllerEntryExpiry_of_none (h : s.expiredController i k = none) :
    exec (.controllerEntryExpiry i k) s = .next s := by
  refine (event_next_self s ?_ : execControllerEntryExpiry i k s = .next s)
  rw [h]

theorem exec_controllerEntryExpiry_of_some (h : s.expiredController i k = some (o, b)) :
    exec (.controllerEntryExpiry i k) s = event (fun s => s.expireController i k o b) s := by
  refine (event_congr s ?_ : execControllerEntryExpiry i k s = _)
  rw [h]

/-- R111: the phase of a slot turns on its state, the plan and the Recovery Queue alone. -/
theorem State.did_phaseOf_of_kept (hst : e.slot.cu.st = (s.slots[i]).cu.st) (hp : e.plan = s.plan)
    (hq : e.queue = s.queue) : (s.did i e).phaseOf i = s.phaseOf i := by
  have hplan : (s.did i e).plan = s.plan := hp
  have hqueue : (s.did i e).queue = s.queue := hq
  unfold State.phaseOf
  rw [State.did_slot, hst, hplan, hqueue]

/-- R50, R51: a slot whose entry `k` of CONTROLLER origin has expired in the phase `phase`, once the expiry has been
reported. -/
def Slot.controllerExpired (sl : Slot) (s : State) (k : Fin 32) (b : OrtBody) (phase : Phase) : Slot :=
  { sl with
    trk := sl.trk.withFreed k,
    ctr := { sl.ctr with
      timeouts := if sl.ctr.timeouts = 0xFFFFFFFF then sl.ctr.timeouts else sl.ctr.timeouts + 1 },
    inc := sl.inc.file (incidentAt s 1 .requestTimeout sl.cu.st phase sl.port.epoch sl.attempt .controller
      (some (BitVec.ofNat 32 k.val)) (some (BitVec.ofNat 32 b.bytesOwed)) (some (b.deadline - b.arrival))) }

/-- What the expiry of an entry of CONTROLLER origin has done once it has been reported. -/
def controllerExpired (s : State) (i : SlotId) (k : Fin 32) (b : OrtBody) (phase : Phase) : Effect :=
  { Effect.none s i with
    slot := (s.slots[i]).controllerExpired s k b phase, attn := s.attn ||| attentionMask i .incident, filed := 1 }

/-- R50, R51: the entry is freed with nothing to hand it on to, or out of ACTIVE, and the expiry is reported. -/
theorem State.reportExpiry_freeEntry {phase : Phase} (hphase : s.phaseOf i = phase)
    (hfree : (s.slots[i]).cu.st = .active → (s.slots[i]).trk.waiting = none ∧ (s.slots[i]).trk.hold = []) :
    (s.freeEntry i k).reportExpiry i .controller k.val b = s.did i (controllerExpired s i k b phase) := by
  have hfreed := State.did_freeEntry (s := s) (i := i) (e := Effect.none s i) (k := k) hfree
  rw [State.did_none] at hfreed
  unfold State.reportExpiry
  rw [hfreed, State.did_countTimeout, State.did_fileIncident (State.did_phaseOf_of_kept (by rfl) (by rfl) (by rfl)), hphase]
  rfl

/-! ### The plan's identity read (R128 to R130) -/

section
variable {p : Plan} {x : Slot} {n : Nat} {attn : BitVec 24} {reason : Reason} {c : Option Dword}

theorem or_of_raised_twice {w : Nat} (a m : BitVec w) : a ||| m ||| m = a ||| m := by
  rw [BitVec.or_assoc, BitVec.or_self]

theorem State.phaseOf_of_plan (hst : (s.slots[i]).cu.st = .recovering) (hq : s.queue[i] = none) (hp : s.plan = some p)
    (hi : p.slot = i) : s.phaseOf i = p.phase.shown :=
  (State.did_phaseOf_of_kept (s := s) (e := Effect.none s i) rfl rfl rfl).symm.trans
    (State.did_phaseOf_of_plan hst hq hp hi)

/-- R32, R50: the current plan is told the result of its request. -/
theorem State.did_ownerResult_plan (hp : e.plan = some p) (hstop : p.stop = false) (result : RequestResult) :
    (s.did p.slot e).ownerResult p.slot .plan result = (s.did p.slot e).takesResult p result := by
  have hplan : (s.did p.slot e).plan = some p := hp
  unfold State.ownerResult State.planResult
  dsimp only
  rw [hplan]
  dsimp only
  rw [if_pos rfl, State.planEvent_of_not_stopped hstop]
  rfl

/-- What an event has done that changed the slot of the current plan `p` to `x` and has filed `n` incidents. -/
def planFiled (s : State) (p : Plan) (x : Slot) (n : Nat) (attn : BitVec 24) : Effect :=
  { planEffect s p.slot x (some p) with attn := attn, filed := n }

/-- R128: ATTEMPT_FAILED is filed behind the incidents that the event has filed already. -/
theorem State.did_fileFailure_of_filed (hst : x.cu.st = .recovering) (hq : s.queue[p.slot] = none) (hn : NoPlanRequest x) :
    (s.did p.slot (planFiled s p x n attn)).fileFailure p reason c =
      s.did p.slot (planFiled s p { x with inc := x.inc.file (attemptFailedAt s p x (n + 1) reason c) } (n + 1)
        (attn ||| attentionMask p.slot .incident)) := by
  have hphase : (s.did p.slot (planFiled s p x n attn)).phaseOf p.slot = p.phase.shown :=
    State.did_phaseOf_of_plan (by exact hst) (by exact hq) rfl rfl
  unfold State.fileFailure
  rw [State.endOwner_of_noPlanRequest _ _ (by rw [State.did_slot]; exact hn), State.did_fileIncident hphase]
  unfold attemptFailedAt Plan.recordShown Plan.recordIndex countDword
  dsimp only [planFiled, planEffect]
  rw [hst]

/-- R128 to R130: an event in which an attempt fails after `n` incidents have been filed, for any reason but an identity
that differs. -/
theorem attemptEnds_of_filed (hst : x.cu.st = .recovering) (hr : reason ≠ .identityMismatch)
    (ha : attn ||| attentionMask p.slot .incident = s.attn ||| attentionMask p.slot .incident) :
    AttemptEnds s p x (n + 1) reason c
      (event (fun _ => (s.did p.slot (planFiled s p x n attn)).failAttempt p reason c) s) := by
  intro hq hn hreq
  unfold State.failAttempt
  dsimp only
  rw [State.did_fileFailure_of_filed hst hq hreq, if_neg hr, State.did_slot, ha]
  refine ⟨fun hlt hh => ?again, fun hle => ?last⟩
  case again =>
    rw [if_pos (by exact hlt)]
    exact event_did (f := fun _ => _) (State.did_requeue (by rfl) hn (by exact hh))
  case last =>
    rw [if_neg (by exact Nat.not_lt.mpr hle)]
    refine (event_did (f := fun _ => _) (State.did_retireAfterFailure (by rfl) hn _ _ _)).trans ?_
    dsimp only [planFiled, planEffect]
    rw [or_of_raised_twice, Slot.asserted_of_inc]
    rfl

/-- R50, R51, R128: the expiry of the identity read of the current plan in SETTLING. -/
theorem State.expireController_of_plan (hp : s.plan = some p) (hph : p.phase = .settling) (hstop : p.stop = false)
    (hst : (s.slots[p.slot]).cu.st = .recovering) (hq : s.queue[p.slot] = none) :
    s.expireController p.slot k .plan b =
      (s.did p.slot (planFiled s p ((s.slots[p.slot]).controllerExpired s k b .settling) 1
        (s.attn ||| attentionMask p.slot .incident))).failAttempt p .requestTimeout none := by
  have hphase : s.phaseOf p.slot = .settling := (State.phaseOf_of_plan hst hq hp rfl).trans (congrArg PlanPhase.shown hph)
  have heffect : controllerExpired s p.slot k b .settling =
      planFiled s p ((s.slots[p.slot]).controllerExpired s k b .settling) 1 (s.attn ||| attentionMask p.slot .incident) := by
    unfold planFiled planEffect
    rw [← hp]
    rfl
  unfold State.expireController
  rw [State.reportExpiry_freeEntry hphase (fun h => absurd h (by rw [hst]; decide)), heffect,
    State.did_ownerResult_plan rfl hstop, takesResult_of_settling hph, hst]
  rfl

end

/-! ### The read of a capture (R141, R143 to R146) -/

section
variable {cp : Capture} {m : Fin 64}

/-- R146: a slot whose capture `cp` has stopped at tick `now`. -/
def Slot.captureStopped (sl : Slot) (now : Tick) (cp : Capture) : Slot :=
  { sl with
    capture := none,
    ou := sl.ouEnding now 2 .cancelled .none (BitVec.ofNat 32 cp.recordsRead) (BitVec.ofNat 32 cp.recordsFailed)
      (BitVec.ofNat 32 cp.firstFailed) }

theorem State.did_continueCapture_of_stopped (h : cp.stop = true) : (s.did i e).continueCapture i cp = s.did i { e with
    slot := e.slot.captureStopped s.now cp, attn := e.attn ||| doneMask i e.slot 2 } := by
  unfold State.continueCapture State.endCapture
  rw [if_pos h, State.did_setCapture, State.did_endOrderOf]
  rfl

theorem State.continueCapture_of_not_stopped (h : cp.stop = false) (s : State) (i : SlotId) :
    s.continueCapture i cp = s.advanceCapture i cp :=
  if_neg (ne_true_of_eq_false h)

/-- R144: a capture with its identity unread or a record failed finishes PARTLY. -/
theorem Slot.captureFinished_of_incomplete (sl : Slot) (now : Tick)
    (h : cp.recordsFailed ≠ 0 ∨ cp.identityResult ≠ .read) : sl.captureFinished now cp =
      { sl with
        capture := none,
        ctx := { sl.ctx with header := { sl.ctx.header with
          captureSerial := sl.ctx.header.captureSerial + 1, lastCaptureTick := now } },
        ou := sl.ouEnding now 2 .partly (if cp.identityResult = .unread then .identityUnread else .none)
          (BitVec.ofNat 32 cp.recordsRead) (BitVec.ofNat 32 cp.recordsFailed) (BitVec.ofNat 32 cp.firstFailed) } := by
  unfold Slot.captureFinished
  rw [if_neg fun hc => h.elim (absurd hc.1) (absurd hc.2)]

/-- R141: a capture whose identity read has had the result TIMEOUT. -/
def Capture.identityUnread (cp : Capture) : Capture := { cp with identityResult := .unread, cursor := 0 }

/-- R143: a capture whose read of record `m` has had the result TIMEOUT. -/
def Capture.recordFailed (cp : Capture) (m : Fin 64) : Capture :=
  { cp with
    recordsRead := cp.recordsRead + 1, recordsFailed := cp.recordsFailed + 1,
    firstFailed := if cp.firstFailed = 64 then m.val else cp.firstFailed, cursor := m.val + 1 }

/-- R143: a slot whose record `m` has been marked CAPTURE_FAILED. -/
def Slot.recordMarked (sl : Slot) (m : Fin 64) : Slot :=
  { sl with ctx := { sl.ctx with records := sl.ctx.records.set m { sl.ctx.records[m] with state := 4 } } }

theorem Slot.recordMarked_records_of_ne {j : Fin 64} (h : j ≠ m) (sl : Slot) :
    (sl.recordMarked m).ctx.records[j] = sl.ctx.records[j] :=
  (getElem_set_fin _ _ _ _).trans (if_neg h)

/-- R143: the record that a capture marks is not read again. -/
theorem Slot.recordMarked_not_reads (sl : Slot) (h : ∀ j : Fin 64, m < j → ¬ Reads sl.ctx.records[j]) (j : Fin 64)
    (hj : m.val + 1 ≤ j.val) : ¬ Reads (sl.recordMarked m).ctx.records[j] := by
  rw [Slot.recordMarked_records_of_ne (ne_of_gt hj)]
  exact h j hj

theorem Slot.recordMarked_first {m' : Fin 64} (sl : Slot) (h : FirstRecord Reads sl.ctx (m.val + 1) m') :
    FirstRecord Reads (sl.recordMarked m).ctx (m.val + 1) m' := by
  obtain ⟨hle, hm', hbefore⟩ := h
  have hother : ∀ j : Fin 64, m.val + 1 ≤ j.val → (sl.recordMarked m).ctx.records[j] = sl.ctx.records[j] :=
    fun j hj => Slot.recordMarked_records_of_ne (ne_of_gt hj) sl
  exact ⟨hle, (hother m' hle).symm ▸ hm', fun j hj hlt => hother j hj ▸ hbefore j hj hlt⟩

theorem State.did_captureResult_of_identityTimeout (hcap : e.slot.capture = some cp) (hs : cp.step = .identity) :
    (s.did i e).captureResult i .timeout = (s.did i e).continueCapture i cp.identityUnread := by
  unfold State.captureResult
  rw [State.did_slot, hcap]
  dsimp only
  rw [hs, State.did_onSlot]
  rfl

theorem State.did_captureResult_of_recordTimeout (hcap : e.slot.capture = some cp) (hs : cp.step = .record m)
    (hr : Reads e.slot.ctx.records[m]) (ho : (e.slot.ctx.records[m]).offset = cp.offsetInHand) :
    (s.did i e).captureResult i .timeout =
      (s.did i { e with slot := e.slot.recordMarked m }).continueCapture i (cp.recordFailed m) := by
  have hlive : (e.slot.ctx.records[m]).stillForCapture cp.offsetInHand = true := by
    unfold RestoreRecord.stillForCapture
    rw [(forCapture_iff _).mpr hr, ho, beq_self_eq_true]
    rfl
  unfold State.captureResult
  rw [State.did_slot, hcap]
  dsimp only
  rw [hs]
  dsimp only
  unfold State.recordResult
  dsimp only
  rw [State.did_slot, hlive, if_pos rfl, State.did_onSlot]
  have hfirst : (if (true && !RequestResult.timeout.ok) = true ∧ cp.firstFailed = 64 then m.val else cp.firstFailed) =
      if cp.firstFailed = 64 then m.val else cp.firstFailed := if_congr (and_iff_right rfl) rfl rfl
  rw [hfirst]
  rfl

/-! ### What follows the expiry of a capture's read (R52) -/

/-- R52: the slot `x`, into which an expiry of an entry of slot `sl` has made it, once timeout_action has been applied. -/
def Slot.timeoutFollowed (sl x : Slot) : Slot :=
  let n := min 15 (sl.trk.answered + 1)
  let answered := { x with trk := { x.trk with answered := n } }
  if sl.inForce.timeoutAction = 0 then x.timeoutTriggered
  else if sl.inForce.timeoutTolerance.toNat ≤ n then answered.timeoutTriggered else answered

theorem State.did_timeoutFollowed {sl : Slot} (hin : e.slot.inForce = sl.inForce)
    (hans : e.slot.trk.answered = sl.trk.answered) :
    (s.did i e).applyTimeoutAction i = s.did i { e with slot := sl.timeoutFollowed e.slot } := by
  rw [State.did_applyTimeoutAction, State.did_reportTrigger, State.did_reportTrigger, hin, hans]
  unfold Slot.timeoutFollowed
  dsimp only
  split
  · rfl
  · split <;> rfl

/-- R50 to R52: the expiry of a capture's read in ACTIVE, with nothing to hand its entry on to, by what the capture makes of
the result TIMEOUT. -/
theorem exec_captureTimeout {x : Slot} {attn : BitVec 24} (hb : ((s.slots[i]).trk.ort[k]).body = some b)
    (ho : b.origin = .controller .capture) (hreached : reached s.now b.deadline = true)
    (hst : (s.slots[i]).cu.st = .active) (hh : (s.slots[i]).trk.hold = []) (hw : (s.slots[i]).trk.waiting = none)
    (hresult : (s.did i (controllerExpired s i k b .none)).captureResult i .timeout =
      s.did i { controllerExpired s i k b .none with slot := x, attn := attn })
    (hin : x.inForce = (s.slots[i]).inForce) (hans : x.trk.answered = (s.slots[i]).trk.answered) :
    exec (.controllerEntryExpiry i k) s = .next (slotAfter s i ((s.slots[i]).timeoutFollowed x) attn 1 []) := by
  have hx : s.expiredController i k = some (.capture, b) := by
    rw [State.expiredController_of_open hb ho, if_pos hreached]
  have hphase : s.phaseOf i = .none := s.phaseOf_of_not_recovering i (not_recovering_of_active hst)
  have hdone : s.expireController i k .capture b =
      ((s.did i (controllerExpired s i k b .none)).captureResult i .timeout).applyTimeoutAction i := by
    unfold State.expireController
    rw [State.reportExpiry_freeEntry hphase fun _ => ⟨hw, hh⟩, hst]
    rfl
  rw [hresult, State.did_timeoutFollowed (by exact hin) (by exact hans)] at hdone
  exact (exec_controllerEntryExpiry_of_some hx).trans (event_did (f := fun s => s.expireController i k .capture b) hdone)

end

/-- Settles O44: the entry is freed and reported, then the owner takes the result TIMEOUT: the plan's attempt fails, or the
capture goes on or ends and timeout_action follows. -/
theorem controllerEntryExpiry : Obligations.ControllerEntryExpiry := by
  intro i k j m m' s sl run b hb freed timedOut
  refine ⟨fun ho hr => ?early, fun p hp ho hr hi hph hstop hst hq => ?plan, fun cp hcap ho hr hst hh hw => ?capture⟩
  case early =>
    refine exec_controllerEntryExpiry_of_none ?_
    rcases ho with ho | ho <;> rw [State.expiredController_of_open hb ho, hr, if_neg Bool.false_ne_true]
  case plan =>
    subst hi
    have hx : s.expiredController p.slot k = some (.plan, b) := by rw [State.expiredController_of_open hb ho, if_pos hr]
    have hrun : run = _ := (exec_controllerEntryExpiry_of_some hx).trans
      (event_congr (g := fun _ => _) s (State.expireController_of_plan hp hph hstop hst hq))
    rw [hrun]
    exact attemptEnds_of_filed hst (by decide) (or_of_raised_twice _ _)
  case capture =>
    intro n triggered answered follows expired record marked unread failed ends finished reads
    have hexec := fun x attn => exec_captureTimeout (x := x) (attn := attn) hb ho hr hst hh hw
    have hidentity := State.did_captureResult_of_identityTimeout (s := s) (i := i) (e := controllerExpired s i k b .none) hcap
    have hrecord := State.did_captureResult_of_recordTimeout (s := s) (i := i) (e := controllerExpired s i k b .none)
      (m := m) hcap
    refine ⟨fun hs hstop => ?identityStops, fun hs hstop hnone => ?identityEnds, fun hs hstop hfirst hj => ?identityGoesOn,
      fun hs hreads hoff => ⟨fun hstop => ?recordStops, fun hstop hnone => ?recordEnds, fun hstop hfirst hj => ?recordGoesOn⟩⟩
    case identityStops =>
      have hdone := hidentity hs
      rw [State.did_continueCapture_of_stopped (by exact hstop)] at hdone
      exact hexec _ _ hdone rfl rfl
    case identityEnds =>
      have hdone := hidentity hs
      rw [State.continueCapture_of_not_stopped (by exact hstop),
        State.did_advanceCapture_of_none (by exact fun r _ => hnone r),
        Slot.captureFinished_of_incomplete _ _ (.inr (by simp [Capture.identityUnread]))] at hdone
      exact hexec _ _ hdone rfl rfl
    case identityGoesOn =>
      have hdone := hidentity hs
      rw [State.continueCapture_of_not_stopped (by exact hstop),
        State.did_advanceCapture_of_first (m := m') (j := j) (by exact hfirst) (by exact hj)] at hdone
      exact hexec _ _ hdone rfl rfl
    case recordStops =>
      have hdone := hrecord hs hreads hoff
      rw [State.did_continueCapture_of_stopped (by exact hstop)] at hdone
      exact hexec _ _ hdone rfl rfl
    case recordEnds =>
      have hdone := hrecord hs hreads hoff
      rw [State.continueCapture_of_not_stopped (by exact hstop),
        State.did_advanceCapture_of_none (by exact Slot.recordMarked_not_reads _ hnone),
        Slot.captureFinished_of_incomplete _ _ (.inl (Nat.succ_ne_zero _))] at hdone
      exact hexec _ _ hdone rfl rfl
    case recordGoesOn =>
      have hdone := hrecord hs hreads hoff
      rw [State.continueCapture_of_not_stopped (by exact hstop),
        State.did_advanceCapture_of_first (m := m') (j := j) (by exact Slot.recordMarked_first _ hfirst) (by exact hj)] at hdone
      exact hexec _ _ hdone rfl rfl

end

end Sys2Proof.Machine

/-! PROOF. Orders taken in ACTIVE, FENCING, FENCED and RETIRED: FENCE, RECOVER and RETIRE against a fence, LIFT and REINSTATE
(R74, R76, R78, R153, R155, R156). -/

namespace Sys2Proof.Machine

open Sys2Proof

section
variable {s : State} {i : SlotId} {e : Effect}

/-! ### The hand-over of an order (R153) and its end (R156) -/

/-- R153: what the hand-over of an order has done when the order is judged. -/
def orderBegun (s : State) (i : SlotId) (o : OrderCode) (number : BitVec 16) (priority : Byte) : Effect :=
  { Effect.none s i with
    slot := { s.slots[i] with
      ou := (s.slots[i]).ou.begun o.code number priority (orderLevel priority (s.slots[i]).inForce) (s.slots[i]).cu.st },
    attn := s.attn &&& ~~~ attentionMask i .orderDone }

theorem exec_orderCommand (o : OrderCode) (number : BitVec 16) (priority : Byte) :
    exec (orderCommand o i number priority) s = event (fun s => s.handOver i o.code number priority) s := by
  cases o <;> rfl

/-- R153: a command that hands an order over while the owner is SOFTWARE does what the judging of the order does. -/
theorem exec_orderCommand_of_judged {o : OrderCode} {number : BitVec 16} {priority : Byte}
    (howner : (s.slots[i]).ou.cell.owner = .software)
    (hjudged : (s.did i (orderBegun s i o number priority)).judgeOrder i o.code
      (orderLevel priority (s.slots[i]).inForce) = s.did i e) :
    exec (orderCommand o i number priority) s = .next { slotAfter s i e.slot e.attn e.filed e.sent with
      plan := e.plan, queue := e.queue, freeIndex := e.free } := by
  rw [exec_orderCommand]
  refine event_did ?_
  rw [handOver_of_software s i o.code number priority howner, ← hjudged]
  simp only [orderBegun, State.did, Effect.none, List.append_nil, BitVec.add_zero]

/-- R156: the end of the order in progress. -/
theorem State.did_endOrder {o : OrderInProgress} (ho : e.slot.ou.order = some o) (outcome : OrderOutcome) (reason : Reason)
    (d1 d2 d3 : Dword) : (s.did i e).endOrder i outcome reason d1 d2 d3 = s.did i { e with
      slot := { e.slot with ou := e.slot.ou.ended s.now o outcome reason d1 d2 d3 },
      attn := e.attn ||| attentionMask i .orderDone } := by
  rw [State.endOrder_of_some _ i o _ _ _ _ _ (by rw [State.did_slot]; exact ho), State.did_onSlot, State.did_raise]
  simp only [OrderUnit.finish, ho]
  rfl

/-! ### FENCE, RECOVER and RETIRE in ACTIVE and in FENCING (R74) -/

theorem State.did_setFollowUp (f : FollowUp) : (s.did i e).setFollowUp i f =
    s.did i { e with slot := { e.slot with cu := { e.slot.cu with followUp := f } } } := s.did_onCu i e _

/-- R74: a slot in ACTIVE or FENCING once an order has set the follow-up `f` and, in ACTIVE, reported a trigger. -/
def Slot.followedUp (sl : Slot) (f : FollowUp) : Slot :=
  { sl with cu := { sl.cu with
      followUp := f,
      triggers := if sl.cu.st = .active then sl.cu.triggers ++ [{ cause := .order, period := sl.cu.period }]
        else sl.cu.triggers } }

theorem State.did_followUp_of_active (hst : e.slot.cu.st = .active) (f : FollowUp) :
    ((s.did i e).setFollowUp i f).reportTrigger i .order = s.did i { e with slot := e.slot.followedUp f } := by
  rw [State.did_setFollowUp, State.did_reportTrigger, Slot.followedUp, if_pos hst]

theorem State.did_followUp_of_fencing (hst : e.slot.cu.st = .fencing) (f : FollowUp) :
    (s.did i e).setFollowUp i f = s.did i { e with slot := e.slot.followedUp f } := by
  rw [State.did_setFollowUp, Slot.followedUp, if_neg (by rw [hst]; decide)]

theorem State.did_orderFence (hst : e.slot.cu.st = .active ∨ e.slot.cu.st = .fencing) :
    (s.did i e).orderFence i = s.did i { e with slot := e.slot.followedUp e.slot.cu.followUp } := by
  have hkept : (s.did i e).setFollowUp i e.slot.cu.followUp = s.did i e := State.did_setFollowUp _
  unfold State.orderFence
  rw [State.did_slot]
  rcases hst with h | h <;> rw [h]
  · rw [← State.did_followUp_of_active h, hkept]
  · rw [← State.did_followUp_of_fencing h, hkept]

theorem State.did_orderRecover (hst : e.slot.cu.st = .active ∨ e.slot.cu.st = .fencing) (level : Level) :
    (s.did i e).orderRecover i level = s.did i { e with slot := e.slot.followedUp (.recover level) } := by
  unfold State.orderRecover
  rw [State.did_slot]
  rcases hst with h | h <;> rw [h]
  · exact State.did_followUp_of_active h _
  · exact State.did_followUp_of_fencing h _

theorem State.did_orderRetire_of_fence (hst : e.slot.cu.st = .active ∨ e.slot.cu.st = .fencing) :
    (s.did i e).orderRetire i = s.did i { e with slot := e.slot.followedUp .retire } := by
  unfold State.orderRetire
  rw [State.did_slot]
  rcases hst with h | h <;> rw [h]
  · exact State.did_followUp_of_active h _
  · exact State.did_followUp_of_fencing h _

/-- Settles O15: each order sets its follow-up, and reports a trigger where the slot is ACTIVE. -/
theorem ordersAgainstAFence : Obligations.OrdersAgainstAFence := by
  intro i number priority o s sl level ho howner hst
  rcases ho with rfl | rfl | rfl
  · exact exec_orderCommand_of_judged (o := .fence) howner (State.did_orderFence hst)
  · exact exec_orderCommand_of_judged (o := .recover) howner (State.did_orderRecover hst level)
  · exact exec_orderCommand_of_judged (o := .retire) howner (State.did_orderRetire_of_fence hst)

/-! ### LIFT (R76) -/

theorem State.did_refuseState {o : OrderInProgress} (ho : e.slot.ou.order = some o) (reason : Reason) :
    (s.did i e).refuseState i reason = s.did i { e with
      slot := { e.slot with
        ou := e.slot.ou.ended s.now o .refusedState reason (stateDword e.slot.cu.st)
          (e.slot.port.link.code.setWidth 32) 0 },
      attn := e.attn ||| attentionMask i .orderDone } := by
  unfold State.refuseState
  dsimp only
  rw [State.did_endOrder (by exact ho), State.did_slot]

/-- R76: a FENCED slot whose link is UP becomes ACTIVE. -/
theorem State.did_orderLift_of_up {o : OrderInProgress} (ho : e.slot.ou.order = some o) (hst : e.slot.cu.st = .fenced)
    (hup : e.slot.port.link = .up) : (s.did i e).orderLift i = s.did i { e with
      slot := { e.slot with
        cu := { e.slot.cu with st := .active, period := e.slot.cu.period + 1 },
        trk := { e.slot.trk with answered := 0 },
        ou := e.slot.ou.ended s.now o .done .none (e.slot.cu.cause.code.setWidth 32) 0 0 },
      attn := e.attn ||| attentionMask i .stateChange ||| attentionMask i .orderDone } := by
  unfold State.orderLift
  dsimp only
  rw [State.did_slot, if_pos hst, if_pos hup, State.did_becomeActive, State.did_raise, State.did_endOrder (by exact ho)]

theorem State.did_orderLift_of_not_up (hst : e.slot.cu.st = .fenced) (hup : e.slot.port.link ≠ .up) :
    (s.did i e).orderLift i = (s.did i e).refuseState i .linkNotUp := by
  unfold State.orderLift
  dsimp only
  rw [State.did_slot, if_pos hst, if_neg hup]

/-- Settles O17: the order ends in the event of its hand-over, DONE with the slot ACTIVE or refused. -/
theorem liftReturnsToService : Obligations.LiftReturnsToService := by
  intro i number priority s sl howner hst
  refine ⟨fun hup => ?lifted, fun hup => ?refused⟩
  case lifted =>
    rw [← or_or_of_cleared]
    exact exec_orderCommand_of_judged (o := .lift) howner (State.did_orderLift_of_up rfl hst hup)
  case refused =>
    rw [← or_of_cleared]
    exact exec_orderCommand_of_judged (o := .lift) howner
      ((State.did_orderLift_of_not_up hst hup).trans (State.did_refuseState rfl .linkNotUp))

/-! ### REINSTATE (R78) -/

theorem State.did_orderReinstate {o : OrderInProgress} (ho : e.slot.ou.order = some o) (hst : e.slot.cu.st = .retired) :
    (s.did i e).orderReinstate i = s.did i { e with
      slot := { e.slot with
        cu := { e.slot.cu with st := .offline }, attempt := 0, ou := e.slot.ou.ended s.now o .done .none 0 0 0 },
      attn := e.attn ||| attentionMask i .stateChange ||| attentionMask i .orderDone } := by
  unfold State.orderReinstate
  rw [State.did_slot, if_pos hst, State.did_setSlotState, State.did_setAttempt, State.did_raise,
    State.did_endOrder (by exact ho)]

/-- Settles O19: the slot goes OFFLINE and the order ends DONE in the event of its hand-over. -/
theorem reinstateLeavesRetired : Obligations.ReinstateLeavesRetired := by
  intro i number priority s sl howner hst
  rw [← or_or_of_cleared]
  exact exec_orderCommand_of_judged (o := .reinstate) howner (State.did_orderReinstate rfl hst)

end

end Sys2Proof.Machine

/-! PROOF. Fences that begin and end in one event: a link loss, and a fatal message with fence_on_fatal on (R66 to R68, R71 to
R73, R105, R113). -/

namespace Sys2Proof.Machine

open Sys2Proof

section
variable {s : State} {i : SlotId} {e : Effect}

/-! ### The fence of a slot that owes nothing (R62, R68, R71) -/

/-- A slot that owes the host nothing and in which nothing waits or is under way, in whatever state it is. -/
structure Slot.AtRest (sl : Slot) : Prop where
  quiet : sl.Quiet
  noCapture : sl.capture = none
  noRead : sl.port.waitingRead = none
  noOrder : sl.ou.order = none
  noFollowUp : sl.cu.followUp = .none

theorem Idle.atRest (h : Idle s i) : (s.slots[i]).AtRest := by
  obtain ⟨hq, -, hcap, hread, -, hord, hf⟩ := h
  exact ⟨hq, hcap, hread, hord, hf⟩

theorem Idle.active (h : Idle s i) : (s.slots[i]).cu.st = .active := by
  obtain ⟨-, hst, -⟩ := h
  exact hst

theorem Idle.notWithheld (h : Idle s i) : s.withheld ≠ some i := by
  obtain ⟨-, -, -, -, hw, -⟩ := h
  exact hw

theorem Slot.AtRest.ouEnding {sl : Slot} (h : sl.AtRest) (now : Tick) (code : Byte) (outcome : OrderOutcome)
    (reason : Reason) (d1 d2 d3 : Dword) : sl.ouEnding now code outcome reason d1 d2 d3 = sl.ou := by
  rw [Slot.ouEnding, Slot.orderOfCode, h.noOrder, Option.filter_none]

theorem Slot.AtRest.doneMask {sl : Slot} (h : sl.AtRest) (i : SlotId) (code : Byte) : doneMask i sl code = 0#24 := by
  rw [Machine.doneMask, Slot.orderOfCode, h.noOrder, Option.filter_none]
  rfl

/-- R72: FENCE_COMPLETE, the n-th incident of an event from `s`, of a fence that settled nothing and took no time. -/
def Slot.fenceCompleteAt (sl : Slot) (s : State) (n : Nat) (cause : FenceCause) : IncidentRecord :=
  incidentAt s n .fenceComplete .fenced .none sl.port.epoch sl.attempt (.cause cause) (some 0) (some 0) (some 0)

/-- R71, R72: a slot that a fence has taken to FENCED at once, FENCE_COMPLETE being the n-th incident of an event from `s`. -/
def Slot.fencedAndFiled (sl : Slot) (s : State) (n : Nat) (cause : FenceCause) : Slot :=
  { sl.fencedAtOnce s.now cause with inc := sl.inc.file (sl.fenceCompleteAt s n cause) }

/-- R68: a slot at rest in which a fence has begun at tick `now`. -/
def Slot.fencing (sl : Slot) (now : Tick) (cause : FenceCause) : Slot :=
  { sl with
    cu := { sl.cu with st := .fencing, cause := cause, tally := { start := now, completions := 0, requests := 0 } },
    trk := { sl.trk with watch := .idle } }

/-- R40: nothing is settled in that slot when its fence closes. -/
theorem Slot.AtRest.tallied {sl : Slot} (h : sl.AtRest) (now : Tick) (cause : FenceCause) :
    (sl.fencing now cause).tallied =
      { sl.fencing now cause with cu := { (sl.fencing now cause).cu with grace := none } } := by
  obtain ⟨hfree, hage, hhold, hwaiting⟩ := h.quiet
  have hquiet : (sl.fencing now cause).Quiet := ⟨hfree, hage, hhold, hwaiting⟩
  obtain ⟨hempty, hnone, hzero⟩ := hquiet.ageListed.emptied_of_nil hage
  unfold Slot.tallied
  rw [hempty, hnone, hzero, ← show (sl.fencing now cause).trk.waiting = none from hwaiting]
  rfl

/-- R71 to R73: the closure of that fence. -/
theorem Slot.AtRest.closed {sl : Slot} (h : sl.AtRest) (s : State) (n : Nat) (cause : FenceCause) :
    (sl.fencing s.now cause).tallied.fenceReached s n = sl.fencedAndFiled s n cause := by
  have hrest : ({ sl.fencing s.now cause with
      cu := { (sl.fencing s.now cause).cu with grace := none } } : Slot).AtRest :=
    ⟨h.quiet, h.noCapture, h.noRead, h.noOrder, h.noFollowUp⟩
  rw [h.tallied]
  unfold Slot.fenceReached Slot.fenceClosed
  dsimp only
  rw [hrest.ouEnding]
  dsimp only [Slot.fencing]
  rw [BitVec.sub_self, h.noFollowUp]
  rfl

/-- R39: an empty Hold Queue is left as it is. -/
theorem State.did_drainHold_of_nil (h : e.slot.trk.hold = []) :
    (s.did i e).drainHold i = { state := s.did i e, completions := 0, requests := 0 } := by
  unfold State.drainHold
  dsimp only
  rw [State.did_slot, if_pos (by rw [h]; rfl)]

/-- R62, R68, R71: a fence of a slot at rest reaches FENCED in the event in which it begins, whatever its grace. -/
theorem State.did_beginFence_of_atRest (h : e.slot.AtRest) (hw : s.withheld ≠ some i) (cause : FenceCause) :
    (s.did i e).beginFence i cause = (s.did i { e with
      slot := e.slot.fencedAndFiled s (e.filed + 1) cause,
      attn := e.attn ||| attentionMask i .incident ||| attentionMask i .stateChange,
      filed := e.filed + 1 }).applyFollowUp i := by
  obtain ⟨hfree, hage, hhold, hwaiting⟩ := h.quiet
  have hquiet : (e.slot.fencing s.now cause).Quiet := ⟨hfree, hage, hhold, hwaiting⟩
  have hrest : (e.slot.fencing s.now cause).AtRest := ⟨hquiet, h.noCapture, h.noRead, h.noOrder, h.noFollowUp⟩
  have hbegun : (s.did i e).beginFence i cause =
      (s.did i { e with slot := e.slot.fencing s.now cause }).closeFence i := by
    unfold State.beginFence
    dsimp only
    rw [State.did_onCu, State.did_announceLeave hw (by exact h.noRead) (by exact h.noCapture),
      State.did_drainHold_of_nil (by exact hhold)]
    dsimp only
    rw [State.did_addTally, State.did_slot, if_pos (.inr (.inr ((openCount_eq_zero _).mpr (by exact hfree))))]
    rfl
  rw [hbegun, State.did_closeFence (by exact nofun) (by exact hquiet.ageListed)]
  dsimp only
  rw [h.closed, hquiet.nothing_owed.2, List.map_nil, List.append_nil, fenceClosedMask, hrest.doneMask, BitVec.or_zero,
    ← BitVec.or_assoc]

/-! ### The loss of a link (R66, R105) -/

/-- R105: a slot whose link has been lost, with its outbound buffer emptied. -/
def Slot.linkLost (sl : Slot) : Slot :=
  { sl with
    port := { sl.port with link := .down, outbound := [] },
    ctr := { sl.ctr with
      postedDiscarded := satAdd sl.ctr.postedDiscarded (sl.port.outbound.countP CardPacket.isPosted) } }

theorem State.takeLinkDown_of_up (hup : (s.slots[i]).port.link = .up) : s.takeLinkDown i = s.onSlot i Slot.linkLost := by
  unfold State.takeLinkDown State.emptyOutbound State.countPostedDiscarded State.onCounters State.onPort
  rw [if_pos hup, State.onSlot_onSlot, State.onSlot_onSlot]
  rfl

/-- R105: LINK_DOWN, the first incident of an event from `s`, of a slot in ACTIVE with no entry OPEN. -/
def Slot.linkDownAt (sl : Slot) (s : State) : IncidentRecord :=
  incidentAt s 1 .linkDown .active .none sl.port.epoch sl.attempt .none (some 0)
    (some (BitVec.ofNat 32 sl.returnOpenCount)) (some (s.now - sl.port.upTick))

/-- What the loss of the link of an idle slot has done when the Containment Unit takes the report. -/
def linkLossFiled (s : State) (i : SlotId) : Effect :=
  { Effect.none s i with
    slot := { (s.slots[i]).linkLost with inc := (s.slots[i]).inc.file ((s.slots[i]).linkDownAt s) },
    attn := s.attn ||| attentionMask i .incident, filed := 1 }

theorem State.fileLinkDown_of_idle (h : Idle s i) (hup : (s.slots[i]).port.link = .up) :
    (s.takeLinkDown i).fileLinkDown i = s.did i (linkLossFiled s i) := by
  have hcount : (s.slots[i]).linkLost.trk.openCount = 0 := (openCount_eq_zero _).mpr h.atRest.quiet.1
  have hst : (s.slots[i]).linkLost.cu.st = .active := h.active
  unfold State.fileLinkDown
  dsimp only
  rw [State.takeLinkDown_of_up hup, State.onSlot_eq_did, State.did_slot,
    State.did_fileIncident (State.did_phaseOf (by rw [hst]; decide)), hcount]
  dsimp only
  rw [hst]
  rfl

/-- R66, R68, R71: what the loss of the link of an idle slot does, up to the follow-up of the fence. -/
def linkLossFenced (s : State) (i : SlotId) : Effect :=
  { linkLossFiled s i with
    slot := (linkLossFiled s i).slot.fencedAndFiled s 2 .linkDown,
    attn := s.attn ||| attentionMask i .incident ||| attentionMask i .stateChange, filed := 2 }

theorem exec_linkLoss_of_idle (h : Idle s i) (hup : (s.slots[i]).port.link = .up) :
    exec (.linkLoss i) s = event (fun _ => (s.did i (linkLossFenced s i)).applyFollowUp i) s := by
  have hst : (linkLossFiled s i).slot.cu.st = .active := h.active
  obtain ⟨hq, hcap, hread, hord, hf⟩ := h.atRest
  have hrest : (linkLossFiled s i).slot.AtRest := ⟨hq, hcap, hread, hord, hf⟩
  refine event_congr
    (f := fun s => if (s.slots[i]).port.link = .up then ((s.takeLinkDown i).fileLinkDown i).reportLinkLoss i else s)
    (g := fun _ => (s.did i (linkLossFenced s i)).applyFollowUp i) s ?_
  rw [if_pos hup, State.fileLinkDown_of_idle h hup, State.reportLinkLoss, State.did_slot, hst]
  dsimp only
  rw [State.did_beginFence_of_atRest hrest h.notWithheld, linkLossFenced, ← or_of_raised_twice s.attn]
  rfl

/-! ### A fatal message (R67) -/

/-- What a fatal message of an idle slot with fence_on_fatal on does, up to the follow-up of the fence. -/
def fatalFenced (s : State) (i : SlotId) (m : CardMessage) : Effect :=
  { Effect.none s i with
    slot := ({ s.slots[i] with
      inc := (s.slots[i]).inc.file (incidentAt s 1 .fatalMessage .active .none (s.slots[i]).port.epoch
        (s.slots[i]).attempt .none (some (m.requesterId.setWidth 32)) (some 1) none) } : Slot).fencedAndFiled s 2
      .fatalMessage,
    attn := s.attn ||| attentionMask i .incident ||| attentionMask i .stateChange, filed := 2, sent := [.message m] }

theorem State.cardMessage_of_idle {m : CardMessage} (h : Idle s i) (hm : m.cls = .errorFatal)
    (hf : (s.slots[i]).inForce.fenceOnFatal ≠ 0) :
    s.cardMessage i m = (s.did i (fatalFenced s i m)).applyFollowUp i := by
  have hsent : s.emit (.message m) = s.did i { Effect.none s i with sent := [.message m] } := by
    simp [State.did, Effect.none, State.emit]
  have hon : ((s.slots[i]).inForce.fenceOnFatal != 0#8) = true := bne_iff_ne.mpr hf
  have hst : (Effect.none s i).slot.cu.st = .active := h.active
  obtain ⟨hq, hcap, hread, hord, hfollow⟩ := h.atRest
  have hrest : ∀ inc : IncidentLogic, ({ s.slots[i] with inc := inc } : Slot).AtRest :=
    fun _ => ⟨hq, hcap, hread, hord, hfollow⟩
  unfold State.cardMessage State.takeFatalMessage
  dsimp only
  rw [if_pos ⟨h.active, hm⟩, State.cardPosted_of_active h.active, hsent, State.did_slot,
    show (Effect.none s i).slot.inForce = (s.slots[i]).inForce from rfl, hon, if_pos rfl, if_pos rfl,
    State.did_fileIncident (State.did_phaseOf (by rw [hst]; decide)),
    State.did_beginFence_of_atRest (by exact hrest _) h.notWithheld, fatalFenced, ← or_of_raised_twice s.attn]
  dsimp only
  rw [hst]
  rfl

/-! ### What follows the fence (R73, R113) -/

/-- Settles O39: the fence reaches FENCED in the one event, and its follow-up, nothing or an automatic recovery, is taken from
there. -/
theorem fencesAtOnce : Obligations.FencesAtOnce := by
  intro i m s sl lost complete linkDown fatal attn afterLoss
  refine ⟨fun hup => ?notUp, fun h hup ha => ?lost, fun h hup ha hp => ?recovers, fun h hm hf ha => ?fatal⟩
  case notUp =>
    exact event_next_self (f := fun s =>
      if (s.slots[i]).port.link = .up then ((s.takeLinkDown i).fileLinkDown i).reportLinkLoss i else s) s (if_neg hup)
  case lost =>
    rw [exec_linkLoss_of_idle h hup]
    exact event_did (f := fun _ => _) (State.did_applyFollowUp_of_staysFenced (e := linkLossFenced s i) ⟨rfl, .inl ha⟩)
  case recovers =>
    have hjoins := joins_of_did (f := fun _ => (s.did i (linkLossFenced s i)).applyFollowUp i)
      (State.did_applyFollowUp_of_autoRecover (e := linkLossFenced s i) rfl ha nofun) rfl rfl rfl (or_of_raised_twice _ _)
    rw [exec_linkLoss_of_idle h hup]
    exact hjoins.1 (.inl hp)
  case fatal =>
    exact event_did (f := fun s => s.cardMessage i m) ((State.cardMessage_of_idle h hm hf).trans
      (State.did_applyFollowUp_of_staysFenced (e := fatalFenced s i m) ⟨rfl, .inl ha⟩))

end

end Sys2Proof.Machine

/-! PROOF. The content of the stand-ins for one request (R79 to R83). -/

namespace Sys2Proof.Machine

open Sys2Proof

section
variable (rid : BitVec 16) (tag : BitVec 10)

/-! ### One ONES completion (R80) -/

/-- R80: the ONES completion that begins at `address` while `n` bytes are not yet carried. -/
def onesCompletion (address : BitVec 64) (n : Nat) : Completion :=
  { requesterId := rid, tag := tag, status := .success, byteCount := n, lowerAddress := address.setWidth 7,
    data := List.replicate (dwordsFor (address.toNat % 4) (min n (256 - address.toNat % 256))) onesDword }

theorem onesFrom_zero (fuel : Nat) (address : BitVec 64) : onesFrom rid tag fuel address 0 = [] := by
  cases fuel <;> rfl

theorem lowerAddress_mod_four (address : BitVec 64) : (address.setWidth 7).toNat % 4 = address.toNat % 4 := by
  rw [BitVec.toNat_setWidth]
  omega

/-- R4, R80: it carries the bytes up to the next multiple of 256, or up to the last byte. -/
theorem bytesCarried_onesCompletion (address : BitVec 64) {n : Nat} (hn : n ≠ 0) :
    bytesCarried (onesCompletion rid tag address n) = min n (256 - address.toNat % 256) := by
  have hdata : ¬ dwordsFor (address.toNat % 4) (min n (256 - address.toNat % 256)) = 0 := by
    unfold dwordsFor
    omega
  unfold bytesCarried onesCompletion
  dsimp only
  rw [lowerAddress_mod_four, List.length_replicate, List.isEmpty_replicate, if_neg (by simpa using hdata), dwordsFor]
  omega

/-- R80: every byte of its data is 0xFF, in as many dwords as its bytes need. -/
theorem onesCompletion_data (address : BitVec 64) {n : Nat} (hn : n ≠ 0) :
    (onesCompletion rid tag address n).data = List.replicate (((onesCompletion rid tag address n).lowerAddress.toNat % 4 +
      bytesCarried (onesCompletion rid tag address n) + 3) / 4) 0xFFFFFFFF := by
  rw [bytesCarried_onesCompletion rid tag address hn,
    show (onesCompletion rid tag address n).lowerAddress.toNat % 4 = address.toNat % 4 from lowerAddress_mod_four address]
  rfl

/-- R80: the completion, and those that follow from the byte behind its last on. -/
theorem onesFrom_succ (fuel : Nat) (address : BitVec 64) {n : Nat} (hn : n ≠ 0) :
    onesFrom rid tag (fuel + 1) address n = onesCompletion rid tag address n ::
      onesFrom rid tag fuel (address + BitVec.ofNat 64 (bytesCarried (onesCompletion rid tag address n)))
        (n - bytesCarried (onesCompletion rid tag address n)) := by
  rw [bytesCarried_onesCompletion rid tag address hn, onesFrom, if_neg hn]
  rfl

/-! ### The run of ONES completions (R80) -/

/-- Where the byte `k` bytes behind `address` stands in its block of 256 bytes. -/
theorem toNat_add_mod (address : BitVec 64) (k : Nat) :
    (address + BitVec.ofNat 64 k).toNat % 256 = (address.toNat + k) % 256 := by
  rw [BitVec.toNat_add, BitVec.toNat_ofNat]
  omega

/-- R80: together the completions carry every byte. -/
theorem sum_onesFrom (fuel : Nat) (address : BitVec 64) {n : Nat} (h : n ≤ fuel) :
    ((onesFrom rid tag fuel address n).map bytesCarried).sum = n := by
  induction fuel generalizing address n with
  | zero =>
    obtain rfl : n = 0 := by omega
    rfl
  | succ fuel ih =>
    by_cases hn : n = 0
    · rw [hn]
      rfl
    · have hc := bytesCarried_onesCompletion rid tag address hn
      rw [onesFrom_succ rid tag fuel address hn, List.map_cons, List.sum_cons, ih _ (by omega)]
      omega

/-- R80: one completion for each block of 256 bytes that the span touches. -/
theorem length_onesFrom (fuel : Nat) (address : BitVec 64) {n : Nat} (hn : n ≠ 0) (h : n ≤ fuel) :
    (onesFrom rid tag fuel address n).length = (address.toNat % 256 + n + 255) / 256 := by
  induction fuel generalizing address n with
  | zero => omega
  | succ fuel ih =>
    have hc := bytesCarried_onesCompletion rid tag address hn
    rw [onesFrom_succ rid tag fuel address hn, List.length_cons]
    generalize bytesCarried (onesCompletion rid tag address n) = c at hc ⊢
    by_cases hlast : n - c = 0
    · rw [hlast, onesFrom_zero, List.length_nil]
      omega
    · rw [ih _ hlast (by omega), toNat_add_mod]
      omega

/-- R80: each completion begins at the first byte that those before it have not carried. -/
theorem getElem?_onesFrom (fuel : Nat) (address : BitVec 64) (n j : Nat) (f : Completion)
    (hf : (onesFrom rid tag fuel address n)[j]? = some f) :
    let carried := (((onesFrom rid tag fuel address n).take j).map bytesCarried).sum
    carried < n ∧ f = onesCompletion rid tag (address + BitVec.ofNat 64 carried) (n - carried) := by
  induction fuel generalizing address n j with
  | zero => cases hf
  | succ fuel ih =>
    by_cases hn : n = 0
    · rw [hn] at hf
      cases hf
    · rw [onesFrom_succ rid tag fuel address hn] at hf ⊢
      cases j with
      | zero =>
        obtain rfl := Option.some.inj hf
        exact ⟨by simpa using Nat.pos_of_ne_zero hn, by simp⟩
      | succ j =>
        obtain ⟨hlt, heq⟩ := ih _ _ _ hf
        rw [List.take_succ_cons, List.map_cons, List.sum_cons]
        refine ⟨by omega, ?_⟩
        rw [heq, BitVec.ofNat_add, ← BitVec.add_assoc, Nat.sub_sub]

/-- Settles O55: the ONES completions of a read are those of `onesFrom`; every other stand-in is one completion. -/
theorem standInContents : Obligations.StandInContents := by
  intro mode rid tag first requested owed offset primary data enables start cs sent
  refine ⟨fun hpos hle hmode => ?ones, fun hmode howed => ?refuse, rfl, rfl⟩
  case ones =>
    have hcs : cs = onesFrom rid tag owed (first + BitVec.ofNat 64 (requested - owed)) owed := if_pos hmode
    have hsent : ∀ j, sent j = ((cs.take j).map bytesCarried).sum := fun _ => rfl
    refine ⟨?length, ?sum, fun j f hf => ?content⟩
    case length => rw [hcs, length_onesFrom rid tag owed _ (by omega) le_rfl]
    case sum => rw [hcs, sum_onesFrom rid tag owed _ le_rfl]
    case content =>
      rw [hcs] at hf
      obtain ⟨hlt, hfeq⟩ := getElem?_onesFrom rid tag _ _ _ _ _ hf
      rw [← hcs, ← hsent] at hlt hfeq
      have hn : owed - sent j ≠ 0 := by omega
      have hblock := toNat_add_mod (first + BitVec.ofNat 64 (requested - owed)) (sent j)
      have hcarried := bytesCarried_onesCompletion rid tag
        (first + BitVec.ofNat 64 (requested - owed) + BitVec.ofNat 64 (sent j)) hn
      rw [hblock] at hcarried
      subst hfeq
      refine ⟨rfl, rfl, rfl, rfl, ?lower, hcarried, onesCompletion_data rid tag _ hn⟩
      case lower =>
        rw [onesCompletion, BitVec.toNat_setWidth]
        omega
  case refuse => exact if_neg (by rw [howed]; exact not_or.mpr ⟨hmode, lt_irrefl _⟩)

end

end Sys2Proof.Machine

/-! PROOF. Host completions: the tags of the Return Map, the accounting of a matched completion to its entry, and the
completions absorbed as stale (R87, R89 to R94). -/

namespace Sys2Proof.Machine

open Sys2Proof

/-! ### Upstream tags (R87, R90) -/

section
variable (i : SlotId) (gen : BitVec 3) (k : Fin 16)

theorem toNat_upstreamTag : (upstreamTag i gen k).toNat = i.val * 128 + gen.toNat * 16 + k.val := by
  have hgen := gen.isLt
  rw [upstreamTag, BitVec.toNat_ofNat]
  exact Nat.mod_eq_of_lt (by omega)

theorem returnSlot_upstreamTag : returnSlot (upstreamTag i gen k) = i := by
  have hgen := gen.isLt
  apply Fin.ext
  show (upstreamTag i gen k).toNat / 128 = i.val
  rw [toNat_upstreamTag]
  omega

theorem returnIndex_upstreamTag : returnIndex (upstreamTag i gen k) = k := by
  apply Fin.ext
  show (upstreamTag i gen k).toNat % 16 = k.val
  rw [toNat_upstreamTag]
  omega

theorem returnGen_upstreamTag : returnGen (upstreamTag i gen k) = gen := by
  have hgen := gen.isLt
  apply BitVec.eq_of_toNat_eq
  rw [returnGen, BitVec.toNat_ofNat, toNat_upstreamTag]
  omega

/-- R87, R90: a tag is the upstream tag of the slot, the generation and the index that it names. -/
theorem upstreamTag_of_named (tag : BitVec 10) :
    upstreamTag (returnSlot tag) (returnGen tag) (returnIndex tag) = tag := by
  have hslot : (returnSlot tag).val = tag.toNat / 128 := rfl
  have hindex : (returnIndex tag).val = tag.toNat % 16 := rfl
  have hgen : (returnGen tag).toNat = tag.toNat % 128 / 16 % 8 := BitVec.toNat_ofNat _ _
  apply BitVec.eq_of_toNat_eq
  rw [toNat_upstreamTag, hslot, hindex, hgen]
  omega

end

section
variable {s : State} {i : SlotId} {e : Effect} {k : Fin 16} {b : ReturnBody} {c : Completion}

/-! ### Unmatched completions (R90, R93) -/

/-- R92, R93: a slot that has counted a stale return. -/
def Slot.staleCounted (sl : Slot) : Slot :=
  { sl with ctr := { sl.ctr with
    staleReturns := if sl.ctr.staleReturns = 0xFFFFFFFF then sl.ctr.staleReturns else sl.ctr.staleReturns + 1 } }

theorem State.countStale_eq (s : State) (i : SlotId) : s.countStale i = s.onSlot i Slot.staleCounted := rfl

/-- R90, R93: a completion whose tag is that of no OPEN entry of the slot it names. -/
theorem State.hostCompletion_of_unmatched (hi : returnSlot c.tag = i)
    (h : ∀ j : Fin 16, ((s.slots[i]).rmap[j]).body ≠ none → c.tag ≠ upstreamTag i ((s.slots[i]).rmap[j]).gen j) :
    s.hostCompletion c = s.countStale i := by
  subst hi
  unfold State.hostCompletion
  dsimp only
  split
  · next b hb =>
    have hgen : ((s.slots[returnSlot c.tag]).rmap[returnIndex c.tag]).gen ≠ returnGen c.tag := by
      intro hg
      exact h _ (by rw [hb]; exact nofun) (by rw [hg, upstreamTag_of_named])
    rw [if_neg hgen]
  · rfl

/-! ### Matched completions (R90 to R92, R94) -/

/-- R90: the bytes that entry `b` owes once the completion `c` is counted. -/
def ReturnBody.owedAfter (b : ReturnBody) (c : Completion) : Nat := b.bytesOwed - bytesCounted c b

/-- R91, R92: a slot that forwards the matched completion `c` to its card in ACTIVE, and absorbs and counts it in any other
state. -/
def Slot.passingReturn (b : ReturnBody) (c : Completion) (sl : Slot) : Slot :=
  if sl.cu.st = .active then { sl with port := { sl.port with
    outbound := sl.port.outbound ++ [.completion { c with requesterId := b.requesterId, tag := b.tag }] } }
  else sl.staleCounted

/-- R90: entry `k` stays OPEN and owes `owed` bytes. -/
def Slot.owingReturn (sl : Slot) (k : Fin 16) (b : ReturnBody) (owed : Nat) : Slot :=
  { sl with rmap := sl.rmap.set k { gen := (sl.rmap[k]).gen, body := some { b with bytesOwed := owed } } }

theorem Slot.passingReturn_of_active {sl : Slot} (h : sl.cu.st = .active) :
    sl.passingReturn b c = { sl with port := { sl.port with
      outbound := sl.port.outbound ++ [.completion { c with requesterId := b.requesterId, tag := b.tag }] } } :=
  if_pos h

theorem Slot.passingReturn_of_not_active {sl : Slot} (h : sl.cu.st ≠ .active) :
    sl.passingReturn b c = sl.staleCounted :=
  if_neg h

theorem Slot.passingReturn_waitingRead (sl : Slot) : (sl.passingReturn b c).port.waitingRead = sl.port.waitingRead := by
  unfold Slot.passingReturn
  split <;> rfl

theorem State.hostCompletion_of_match (hb : ((s.slots[i]).rmap[k]).body = some b)
    (htag : c.tag = upstreamTag i ((s.slots[i]).rmap[k]).gen k) : s.hostCompletion c = s.returnMatched i k b c := by
  have hgen : returnGen c.tag = ((s.slots[i]).rmap[k]).gen := by rw [htag, returnGen_upstreamTag]
  obtain rfl : returnSlot c.tag = i := by rw [htag, returnSlot_upstreamTag]
  obtain rfl : returnIndex c.tag = k := by rw [htag, returnIndex_upstreamTag]
  unfold State.hostCompletion
  dsimp only
  rw [hb]
  dsimp only
  rw [if_pos hgen.symm]

/-- R90: a completion under the upstream tag of an OPEN entry is matched, and its tag counts no further. -/
theorem exec_hostCompletion_of_match (hb : ((s.slots[i]).rmap[k]).body = some b) (c : Completion) :
    exec (.hostCompletion { c with tag := upstreamTag i ((s.slots[i]).rmap[k]).gen k }) s =
      event (fun s => s.returnMatched i k b c) s :=
  event_congr (f := fun s => s.hostCompletion _) s (State.hostCompletion_of_match hb rfl)

/-- R91, R92: what the slot state decides of a matched completion. -/
theorem State.passReturn_eq (s : State) (i : SlotId) :
    (if (s.slots[i]).cu.st = .active then
      s.pushOutbound i (.completion { c with requesterId := b.requesterId, tag := b.tag })
    else s.countStale i) = s.onSlot i (Slot.passingReturn b c) := by
  split
  · next h => simp only [State.pushOutbound_eq, State.onSlot, Slot.passingReturn_of_active h]
  · next h => simp only [State.countStale_eq, State.onSlot, Slot.passingReturn_of_not_active h]

/-- R90: a matched completion after which the entry owes bytes. -/
theorem State.returnMatched_of_owing (hs : c.status = .success) (ho : b.owedAfter c ≠ 0) :
    s.returnMatched i k b c = s.onSlot i fun sl => (sl.passingReturn b c).owingReturn k b (b.owedAfter c) := by
  have hopen : ¬ (c.status ≠ .success ∨ b.owedAfter c = 0) := not_or.mpr ⟨not_not.mpr hs, ho⟩
  unfold State.returnMatched
  dsimp only
  rw [State.passReturn_eq, ← ReturnBody.owedAfter, if_neg hopen, State.onSlot_onSlot]
  rfl

/-- R94: a matched completion that frees its entry. -/
theorem State.returnMatched_of_ended (h : c.status ≠ .success ∨ b.owedAfter c = 0) :
    s.returnMatched i k b c = (s.onSlot i fun sl => (sl.passingReturn b c).freedReturn k).handOverRead i := by
  unfold State.returnMatched
  dsimp only
  rw [State.passReturn_eq, ← ReturnBody.owedAfter, if_pos h, State.freeReturn, State.onSlot_onSlot]

/-- R94: a matched completion that frees its entry where no card read waits for one. -/
theorem State.returnMatched_of_no_read (h : c.status ≠ .success ∨ b.owedAfter c = 0)
    (hw : (s.slots[i]).port.waitingRead = none) :
    s.returnMatched i k b c = s.onSlot i fun sl => (sl.passingReturn b c).freedReturn k := by
  have hslot : (s.onSlot i fun sl => (sl.passingReturn b c).freedReturn k).slots[i] =
      ((s.slots[i]).passingReturn b c).freedReturn k := s.onSlot_slots_same i _
  rw [State.returnMatched_of_ended h,
    State.handOverRead_of_none (by rw [hslot]; exact (Slot.passingReturn_waitingRead _).trans hw)]

/-! ### The card read that waits (R89) -/

/-- An entry that is freed while every other is OPEN is the one FREE entry. -/
theorem Slot.lowestFreeReturn_freedReturn {sl : Slot} (h : ∀ j : Fin 16, j ≠ k → (sl.rmap[j]).body ≠ none) :
    LowestFreeReturn (sl.freedReturn k) k := by
  constructor
  · rw [Slot.freedReturn, getElem_set_fin, if_pos rfl]
  · intro j hj
    rw [Slot.freedReturn, getElem_set_fin, if_neg hj.ne]
    exact h j hj.ne

/-- R87, R94: an entry that is freed and opens again carries the next generation. -/
theorem Slot.freedReturn_gen (sl : Slot) (k : Fin 16) : ((sl.freedReturn k).rmap[k]).gen = (sl.rmap[k]).gen + 1 := by
  rw [Slot.freedReturn, getElem_set_fin, if_pos rfl]

theorem Slot.withReturn_freedReturn (sl : Slot) (s : State) (k : Fin 16) (r : MemRequest) :
    (sl.freedReturn k).withReturn s k r = { sl with rmap := sl.rmap.set k { gen := (sl.rmap[k]).gen + 1, body := some {
      requesterId := r.requesterId, tag := r.tag, bytesRequested := memBytesRequested r,
      bytesOwed := memBytesRequested r, expiry := s.now + BitVec.ofNat 32 (s.device.returnLimitMs.toNat * 1000) } } } := by
  rw [Slot.withReturn, Slot.freedReturn_gen, Slot.freedReturn, Vector.set_set]

/-- R88, R89: the hand-over of a card read that finds an entry FREE. -/
theorem State.did_handOverRead {r : MemRequest} (hw : e.slot.port.waitingRead = some r) (hst : e.slot.cu.st = .active)
    (hk : LowestFreeReturn e.slot k) : (s.did i e).handOverRead i = s.did i { e with
      slot := e.slot.withoutRead.withReturn s k r,
      sent := e.sent ++ [.memRead { r with
        requesterId := s.mgmt.requesterId, tag := upstreamTag i (e.slot.rmap[k]).gen k }] } := by
  have hwithout : (s.did i e).withoutRead i = s.did i { e with slot := e.slot.withoutRead } := s.did_onSlot i e _
  rw [State.handOverRead_of_some (by rw [State.did_slot]; exact hw), hwithout,
    State.takeCardRead_of_free (by rw [State.did_slot]; exact hst) (by rw [State.did_slot]; exact hk)]
  unfold State.openReturn
  dsimp only
  rw [State.did_onSlot, State.did_slot]
  simp [State.did, State.emit, Slot.withReturn, Slot.withoutRead, after]

/-- R89, R94: a matched completion that frees the one entry for which a card read waits, at an ACTIVE slot. -/
theorem State.returnMatched_of_read {r : MemRequest} (h : c.status ≠ .success ∨ b.owedAfter c = 0)
    (hst : (s.slots[i]).cu.st = .active) (hfull : ∀ j : Fin 16, j ≠ k → ((s.slots[i]).rmap[j]).body ≠ none)
    (hw : (s.slots[i]).port.waitingRead = some r) :
    s.returnMatched i k b c = s.did i { Effect.none s i with
      slot := (((s.slots[i]).passingReturn b c).withoutRead.freedReturn k).withReturn s k r,
      sent := [.memRead { r with
        requesterId := s.mgmt.requesterId, tag := upstreamTag i (((s.slots[i]).rmap[k]).gen + 1) k }] } := by
  have hgen := Slot.freedReturn_gen s.slots[i] k
  rw [State.returnMatched_of_ended h, State.onSlot_eq_did, Slot.passingReturn_of_active hst, State.did_handOverRead hw hst
    (Slot.lowestFreeReturn_freedReturn hfull), ← hgen]
  rfl

/-! ### The obligations -/

/-- Settles O29: a matched completion is passed on, and its entry is kept, freed, or freed and taken by the card read that
waits. -/
theorem hostCompletionForwarded : Obligations.HostCompletionForwarded := by
  intro i k c s sl b hb hst owed sent port run
  have hrun : run = event (fun s => s.returnMatched i k b c) s := exec_hostCompletion_of_match hb c
  have hpass : sl.passingReturn b c = { sl with port := port } := Slot.passingReturn_of_active hst
  rw [hrun]
  refine ⟨fun hs ho => ?kept, fun h hw => ?freed, fun h hfull r hw => ?handedOver⟩
  case kept =>
    rw [event_next_of_onSlot s i (State.returnMatched_of_owing hs ho), hpass]
    rfl
  case freed =>
    rw [event_next_of_onSlot s i (State.returnMatched_of_no_read h hw), hpass]
    rfl
  case handedOver =>
    rw [event_did (State.returnMatched_of_read h hst hfull hw), Slot.withReturn_freedReturn, hpass]
    rfl

/-- Settles O30: an unmatched completion is counted and does nothing else; a matched one out of ACTIVE is counted and its
entry is kept or freed. -/
theorem staleReturns : Obligations.StaleReturns := by
  intro i k c s sl stale
  refine ⟨fun hi h => ?unmatched, fun b hb hst hw => ?matched⟩
  case unmatched =>
    exact event_next_of_onSlot (f := fun s => s.hostCompletion c) s i
      ((State.hostCompletion_of_unmatched (Fin.ext hi.symm) h).trans (s.countStale_eq i))
  case matched =>
    intro owed
    have hpass : sl.passingReturn b c = { sl with ctr := stale } := Slot.passingReturn_of_not_active hst
    rw [exec_hostCompletion_of_match hb]
    by_cases h : c.status ≠ .success ∨ owed = 0
    · rw [event_next_of_onSlot s i (State.returnMatched_of_no_read h hw), hpass, if_pos h]
      rfl
    · obtain ⟨hs, ho⟩ := not_or.mp h
      rw [event_next_of_onSlot s i (State.returnMatched_of_owing (not_not.mp hs) ho), hpass, if_neg h]
      rfl

end

end Sys2Proof.Machine

/-! PROOF. What the agreement of slot states, reset lines, links, attempt numbers, Recovery Queue and plan reads of the
state, as a record of its own: the standings of the slots and the current plan (R99, R107, R111 to R113, R119, R125). -/

namespace Sys2Proof.Machine

open Sys2Proof

/-! ### The record -/

/-- What the agreement reads of one slot: its state, its port's line, link and accepted presence, its attempt number, its
attempt limit in force and its Recovery Queue entry. -/
structure Standing where
  st : SlotState
  line : ResetLine
  link : LinkState
  accepted : Presence
  attempt : Nat
  limit : Byte
  entry : Option QueueEntry

/-- The standing of a slot that has the Recovery Queue entry `e`. -/
def Slot.standing (sl : Slot) (e : Option QueueEntry) : Standing :=
  { st := sl.cu.st, line := sl.port.line, link := sl.port.link, accepted := sl.port.accepted, attempt := sl.attempt,
    limit := sl.inForce.attemptLimit, entry := e }

/-- The standings of the slots, and the current plan. -/
@[ext]
structure Roster where
  slot : SlotId → Standing
  plan : Option Plan

/-- What the agreement reads of the state. -/
def State.roster (s : State) : Roster := { slot := fun j => (s.slots[j]).standing s.queue[j], plan := s.plan }

/-- The record with the standing of one slot changed. -/
def Roster.onSlot (r : Roster) (i : SlotId) (f : Standing → Standing) : Roster :=
  { r with slot := Function.update r.slot i (f (r.slot i)) }

/-- The record with another current plan. -/
def Roster.withPlan (r : Roster) (p : Option Plan) : Roster := { r with plan := p }

/-- The current plan, if slot `j` is its slot. -/
def Roster.planOf (r : Roster) (j : SlotId) : Option Plan := r.plan.filter fun p => p.slot == j

@[simp] theorem State.roster_plan (s : State) : s.roster.plan = s.plan := rfl

section
variable (r : Roster) (i j : SlotId) (f g : Standing → Standing) (p q : Option Plan)

@[simp] theorem Roster.onSlot_plan : (r.onSlot i f).plan = r.plan := rfl
@[simp] theorem Roster.withPlan_plan : (r.withPlan p).plan = p := rfl
@[simp] theorem Roster.withPlan_slot : (r.withPlan p).slot = r.slot := rfl
@[simp] theorem Roster.onSlot_slot_same : (r.onSlot i f).slot i = f (r.slot i) := Function.update_self ..
@[simp] theorem Roster.withPlan_withPlan : (r.withPlan p).withPlan q = r.withPlan q := rfl

/-- The plan is set last: the form in which `simp` leaves a record. -/
@[simp] theorem Roster.withPlan_onSlot : (r.withPlan p).onSlot i f = (r.onSlot i f).withPlan p := rfl

@[simp] theorem Roster.onSlot_onSlot : (r.onSlot i f).onSlot i g = r.onSlot i fun x => g (f x) := by
  simp [Roster.onSlot]

/-- A change that leaves the standing as it is. -/
theorem Roster.onSlot_eq_self (h : f (r.slot i) = r.slot i) : r.onSlot i f = r := by
  rw [Roster.onSlot, h, Function.update_eq_self]

theorem Roster.onSlot_slot_of_ne (h : j ≠ i) : (r.onSlot i f).slot j = r.slot j := Function.update_of_ne h ..

variable {r p i j}

theorem Roster.planOf_eq_some {q : Plan} : r.planOf j = some q ↔ r.plan = some q ∧ q.slot = j := by
  simp [Roster.planOf, Option.filter_eq_some_iff]

theorem Roster.planOf_eq_none : r.planOf j = none ↔ ∀ q, r.plan = some q → q.slot ≠ j := by
  simp [Roster.planOf, Option.filter_eq_none_iff]

/-- A plan of slot `i`, or none, is no plan of another slot. -/
theorem Roster.planOf_of_other (h : ∀ q, r.plan = some q → q.slot = i) (hj : j ≠ i) : r.planOf j = none :=
  Roster.planOf_eq_none.mpr fun q hq hs => hj (hs.symm.trans (h q hq))

end

/-! ### What an update of the state makes of the record -/

section
variable (s : State) (i : SlotId)

theorem State.onSlot_roster {f : Slot → Slot} (g : Standing → Standing)
    (h : ∀ e, (f s.slots[i]).standing e = g ((s.slots[i]).standing e)) : (s.onSlot i f).roster = s.roster.onSlot i g := by
  refine Roster.ext (funext fun j => ?_) rfl
  by_cases hj : j = i
  · subst hj
    rw [Roster.onSlot_slot_same]
    exact (congrArg (Slot.standing · _) ((s.onSlot_slots_get j j f).trans (if_pos rfl))).trans (h _)
  · rw [Roster.onSlot_slot_of_ne _ _ _ _ hj]
    exact congrArg (Slot.standing · _) (s.onSlot_slots_of_ne i j f hj)

/-- An update of a slot that leaves its standing as it is. -/
@[simp] theorem State.onSlot_roster_of_kept {f : Slot → Slot} (hst : (f s.slots[i]).cu.st = (s.slots[i]).cu.st := by rfl)
    (hline : (f s.slots[i]).port.line = (s.slots[i]).port.line := by rfl)
    (hlink : (f s.slots[i]).port.link = (s.slots[i]).port.link := by rfl)
    (hacc : (f s.slots[i]).port.accepted = (s.slots[i]).port.accepted := by rfl)
    (hatt : (f s.slots[i]).attempt = (s.slots[i]).attempt := by rfl)
    (hlim : (f s.slots[i]).inForce.attemptLimit = (s.slots[i]).inForce.attemptLimit := by rfl) :
    (s.onSlot i f).roster = s.roster := by
  rw [s.onSlot_roster i id fun e => by simp only [Slot.standing, hst, hline, hlink, hacc, hatt, hlim, id]]
  exact Roster.onSlot_eq_self _ i id rfl

@[simp] theorem State.setPlan_roster (p : Option Plan) : (s.setPlan p).roster = s.roster.withPlan p := rfl

@[simp] theorem State.setQueue_roster (e : Option QueueEntry) :
    (s.setQueue i e).roster = s.roster.onSlot i fun x => { x with entry := e } := by
  refine Roster.ext (funext fun j => ?_) rfl
  by_cases hj : j = i
  · subst hj
    rw [Roster.onSlot_slot_same]
    exact congrArg (Slot.standing _) ((s.setQueue_queue_get j j e).trans (if_pos rfl))
  · rw [Roster.onSlot_slot_of_ne _ _ _ _ hj]
    exact congrArg (Slot.standing _) (s.setQueue_queue_of_ne i j e hj)

/-! #### The shared operations -/

theorem State.onCu_roster {f : Containment → Containment} (st : SlotState)
    (h : (f (s.slots[i]).cu).st = st) : (s.onCu i f).roster = s.roster.onSlot i fun x => { x with st := st } :=
  s.onSlot_roster i _ fun _ => by simp only [Slot.standing, h]

@[simp] theorem State.onCu_roster_of_kept {f : Containment → Containment}
    (h : (f (s.slots[i]).cu).st = (s.slots[i]).cu.st := by rfl) : (s.onCu i f).roster = s.roster :=
  s.onSlot_roster_of_kept i h

@[simp] theorem State.onTracker_roster (f : Tracker → Tracker) : (s.onTracker i f).roster = s.roster :=
  s.onSlot_roster_of_kept i

@[simp] theorem State.onPort_roster_of_kept {f : SlotPort → SlotPort}
    (hline : (f (s.slots[i]).port).line = (s.slots[i]).port.line := by rfl)
    (hlink : (f (s.slots[i]).port).link = (s.slots[i]).port.link := by rfl)
    (hacc : (f (s.slots[i]).port).accepted = (s.slots[i]).port.accepted := by rfl) : (s.onPort i f).roster = s.roster :=
  s.onSlot_roster_of_kept i rfl hline hlink hacc

@[simp] theorem State.onOrderUnit_roster (f : OrderUnit → OrderUnit) : (s.onOrderUnit i f).roster = s.roster :=
  s.onSlot_roster_of_kept i

@[simp] theorem State.onCounters_roster (f : Counters → Counters) : (s.onCounters i f).roster = s.roster :=
  s.onSlot_roster_of_kept i

@[simp] theorem State.countPostedDiscarded_roster (n : Nat) : (s.countPostedDiscarded i n).roster = s.roster :=
  s.onCounters_roster i _

@[simp] theorem State.countStandins_roster (n : Nat) : (s.countStandins i n).roster = s.roster := s.onCounters_roster i _

@[simp] theorem State.countLate_roster : (s.countLate i).roster = s.roster := s.onCounters_roster i _

@[simp] theorem State.countStale_roster : (s.countStale i).roster = s.roster := s.onCounters_roster i _

@[simp] theorem State.countCardDropped_roster : (s.countCardDropped i).roster = s.roster := s.onCounters_roster i _

@[simp] theorem State.countOverrun_roster : (s.countOverrun i).roster = s.roster := s.onCounters_roster i _

@[simp] theorem State.countTimeout_roster : (s.countTimeout i).roster = s.roster := s.onCounters_roster i _

@[simp] theorem State.countUnrouted_roster : s.countUnrouted.roster = s.roster := rfl

@[simp] theorem State.raise_roster (a : Attention) : (s.raise i a).roster = s.roster := rfl

@[simp] theorem State.clearAttention_roster (a : Attention) : (s.clearAttention i a).roster = s.roster := rfl

@[simp] theorem State.setSlotState_roster (st : SlotState) :
    (s.setSlotState i st).roster = s.roster.onSlot i fun x => { x with st := st } :=
  s.onCu_roster i st rfl

@[simp] theorem State.setAttempt_roster (k : Nat) :
    (s.setAttempt i k).roster = s.roster.onSlot i fun x => { x with attempt := k } :=
  s.onSlot_roster i _ fun _ => rfl

@[simp] theorem State.becomeActive_roster :
    (s.becomeActive i).roster = s.roster.onSlot i fun x => { x with st := .active } := by
  unfold State.becomeActive
  rw [State.onTracker_roster, State.onCu_roster _ i .active rfl]

@[simp] theorem State.reportTrigger_roster (cause : FenceCause) : (s.reportTrigger i cause).roster = s.roster :=
  s.onCu_roster_of_kept i

@[simp] theorem State.fileIncident_roster (kind : IncidentKind) (reason : Reason) (a b c : Option Dword) :
    (s.fileIncident i kind reason a b c).roster = s.roster := by
  rw [State.fileIncident_eq, State.raise_roster, State.onSlot_roster_of_kept]
  rfl

@[simp] theorem State.endOrder_roster (outcome : OrderOutcome) (reason : Reason) (d1 d2 d3 : Dword) :
    (s.endOrder i outcome reason d1 d2 d3).roster = s.roster := by
  unfold State.endOrder
  split <;> simp

@[simp] theorem State.endOrderOf_roster (c : OrderCode) (outcome : OrderOutcome) (reason : Reason) (d1 d2 d3 : Dword) :
    (s.endOrderOf i c outcome reason d1 d2 d3).roster = s.roster := by
  unfold State.endOrderOf
  split <;> simp

/-! #### The Slot Port -/

/-- R107, R108: the standing of a slot after an assert command. -/
def Standing.asserted (x : Standing) : Standing :=
  if x.line = .asserted then x else { x with line := .asserted, link := .down }

/-- R107: the standing of a slot after a release command. -/
def Standing.released (x : Standing) : Standing :=
  if x.line = .asserted then { x with line := .released, link := .training } else x

@[simp] theorem State.pushOutbound_roster (p : CardPacket) : (s.pushOutbound i p).roster = s.roster :=
  s.onPort_roster_of_kept i

@[simp] theorem State.emptyOutbound_roster : (s.emptyOutbound i).roster = s.roster := by
  unfold State.emptyOutbound
  simp

@[simp] theorem State.takeLinkDown_roster :
    (s.takeLinkDown i).roster = s.roster.onSlot i fun x => { x with link := .down } := by
  unfold State.takeLinkDown
  refine (State.onSlot_roster _ i (fun x => { x with link := .down }) fun _ => rfl).trans ?_
  split <;> simp

@[simp] theorem State.assertLine_roster : (s.assertLine i).roster = s.roster.onSlot i Standing.asserted := by
  rw [State.assertLine_eq]
  refine s.onSlot_roster i _ fun e => ?_
  unfold Slot.asserted Standing.asserted
  exact apply_ite (Slot.standing · e) _ _ _

@[simp] theorem State.releaseLine_roster : (s.releaseLine i).roster = s.roster.onSlot i Standing.released := by
  unfold State.releaseLine
  split
  · next hl => exact s.onSlot_roster i _ fun _ => (if_pos hl).symm
  · next hl => exact (Roster.onSlot_eq_self _ i _ (if_neg hl)).symm

@[simp] theorem State.dropWaitingRead_roster : (s.dropWaitingRead i).roster = s.roster := by
  unfold State.dropWaitingRead
  split <;> simp

/-! #### The Return Map -/

@[simp] theorem State.emit_roster (p : HostPacket) : (s.emit p).roster = s.roster := rfl

@[simp] theorem State.emitCompletions_roster (cs : List Completion) : (s.emitCompletions cs).roster = s.roster := rfl

@[simp] theorem State.openReturn_roster (k : Fin 16) (r : MemRequest) : (s.openReturn i k r).roster = s.roster := by
  unfold State.openReturn
  simp

@[simp] theorem State.takeCardRead_roster (r : MemRequest) : (s.takeCardRead i r).roster = s.roster := by
  unfold State.takeCardRead
  split
  · split <;> simp
  · simp

@[simp] theorem State.handOverRead_roster : (s.handOverRead i).roster = s.roster := by
  unfold State.handOverRead
  split <;> simp

@[simp] theorem State.freeReturn_roster (k : Fin 16) : (s.freeReturn i k).roster = s.roster := by
  unfold State.freeReturn Slot.freedReturn
  simp

/-! #### What the Upstream Port answers and what reaches a Tracker -/

@[simp] theorem State.sendStandIns_roster (cs : List Completion) : (s.sendStandIns i cs).roster = s.roster := by
  unfold State.sendStandIns
  simp

@[simp] theorem State.answerUnrouted_roster (q : HostRequest) : (s.answerUnrouted q).roster = s.roster := rfl

@[simp] theorem State.openEntry_roster (k : Fin 32) (b : OrtBody) (q : NonPosted) :
    (s.openEntry i k b q).roster = s.roster := by
  unfold State.openEntry
  simp

@[simp] theorem State.openController_roster (k : Fin 32) (c : ControllerRequest) :
    (s.openController i k c).roster = s.roster :=
  s.openEntry_roster i k _ _

@[simp] theorem State.issueController_roster (c : ControllerRequest) : (s.issueController i c).roster = s.roster := by
  unfold State.issueController
  split <;> simp

@[simp] theorem State.takeHostRequest_roster (q : NonPosted) : (s.takeHostRequest i q).roster = s.roster := by
  unfold State.takeHostRequest
  dsimp only
  split
  · simp
  · split
    · simp
    · rfl

@[simp] theorem State.slotRequest_roster (q : NonPosted) : (s.slotRequest i q).roster = s.roster := by
  unfold State.slotRequest
  dsimp only
  split <;> simp

@[simp] theorem State.serveManagement_roster (q : NonPosted) : (s.serveManagement q).roster = s.roster := by
  cases q <;> rfl

@[simp] theorem State.decide_roster (q : HostRequest) : (s.decide q).roster = s.roster := by
  unfold State.decide
  split
  · rfl
  all_goals simp

@[simp] theorem State.arrive_roster (q : HostRequest) : (s.arrive q).roster = s.roster := by
  unfold State.arrive
  split
  · simp
  · rfl

@[simp] theorem State.retakeFirst_roster : s.retakeFirst.roster = s.roster := by
  unfold State.retakeFirst
  split
  · rfl
  · exact State.decide_roster _ _

@[simp] theorem State.retakeFor_roster : (s.retakeFor i).roster = s.roster := by
  unfold State.retakeFor
  split <;> simp

/-! #### The freeing and settling of entries -/

@[simp] theorem State.handOn_roster (k : Fin 32) : (s.handOn i k).roster = s.roster := by
  unfold State.handOn
  dsimp only
  split <;> simp

@[simp] theorem State.freeEntry_roster (k : Fin 32) : (s.freeEntry i k).roster = s.roster := by
  unfold State.freeEntry
  dsimp only
  split <;> simp

@[simp] theorem State.endOwner_roster (o : RequestOwner) : (s.endOwner i o).roster = s.roster := by
  unfold State.endOwner
  dsimp only
  split
  · rw [State.freeEntry_roster]
    split <;> simp
  · split <;> simp

@[simp] theorem State.drainHold_roster : (s.drainHold i).state.roster = s.roster := by
  unfold State.drainHold
  dsimp only
  split <;> simp

@[simp] theorem State.settleEntry_roster (r : Settled) (k : Fin 32) :
    (State.settleEntry i r k).state.roster = r.state.roster := by
  unfold State.settleEntry
  dsimp only
  split
  · rfl
  · split <;> simp

@[simp] theorem State.closeAll_roster : (s.closeAll i).state.roster = s.roster := by
  unfold State.closeAll
  dsimp only
  rw [State.onTracker_roster]
  exact List.foldlRecOn (motive := fun r : Settled => r.state.roster = s.roster) _ _ rfl
    fun r hr k _ => (State.settleEntry_roster i r k).trans hr

@[simp] theorem State.shadowUpdate_roster (kind : EntryKind) : (s.shadowUpdate i kind).roster = s.roster := by
  unfold State.shadowUpdate
  split <;> simp

@[simp] theorem State.reportProgress_roster : (s.reportProgress i).roster = s.roster := by
  unfold State.reportProgress
  simp

/-! #### The capture engine -/

@[simp] theorem State.setCapture_roster (c : Option Capture) : (s.setCapture i c).roster = s.roster :=
  s.onSlot_roster_of_kept i

@[simp] theorem State.startCapture_roster : (s.startCapture i).roster = s.roster := by
  unfold State.startCapture
  simp

@[simp] theorem State.endCapture_roster (c : Capture) (outcome : OrderOutcome) (reason : Reason) :
    (s.endCapture i c outcome reason).roster = s.roster := by
  unfold State.endCapture
  simp

@[simp] theorem State.continueCapture_roster (c : Capture) : (s.continueCapture i c).roster = s.roster := by
  unfold State.continueCapture State.advanceCapture State.finishCapture
  dsimp only
  split
  · simp
  · split <;> simp

@[simp] theorem State.captureResult_roster (result : RequestResult) : (s.captureResult i result).roster = s.roster := by
  unfold State.captureResult State.recordResult
  split
  · rfl
  · split
    · simp
    · dsimp only
      rw [State.continueCapture_roster]
      split <;> simp

@[simp] theorem State.captureLeaves_roster : (s.captureLeaves i).roster = s.roster := by
  unfold State.captureLeaves
  split
  · rfl
  · dsimp only
    split <;> simp

@[simp] theorem State.cancelCapture_roster : (s.cancelCapture i).roster = s.roster := by
  unfold State.cancelCapture
  split
  · rfl
  · split <;> simp

/-! #### The Containment Unit -/

@[simp] theorem State.announceLeave_roster : (s.announceLeave i).roster = s.roster := by
  unfold State.announceLeave
  simp

@[simp] theorem State.addTally_roster (completions requests : Nat) : (s.addTally i completions requests).roster = s.roster :=
  s.onCu_roster_of_kept i

/-- R75: an abrupt close changes nothing of a slot's standing but its state. -/
@[simp] theorem State.abruptClose_roster (st : SlotState) :
    (s.abruptClose i st).state.roster = s.roster.onSlot i fun x => { x with st := st } := by
  unfold State.abruptClose
  dsimp only
  rw [State.closeAll_roster, State.drainHold_roster, State.onCu_roster_of_kept]
  split <;> simp

/-- R77: a retirement by order. -/
@[simp] theorem State.retireByOrder_roster (taken : SlotState) :
    (s.retireByOrder i taken).roster = s.roster.onSlot i fun x => ({ x with st := .retired } : Standing).asserted := by
  unfold State.retireByOrder
  simp

@[simp] theorem State.reachFenced_roster :
    (s.reachFenced i).roster = s.roster.onSlot i fun x => { x with st := .fenced } := by
  unfold State.reachFenced
  simp

@[simp] theorem State.setFollowUp_roster (f : FollowUp) : (s.setFollowUp i f).roster = s.roster :=
  s.onCu_roster_of_kept i

@[simp] theorem State.refuseState_roster (reason : Reason) : (s.refuseState i reason).roster = s.roster :=
  s.endOrder_roster i _ _ _ _ _

end

end Sys2Proof.Machine

/-! PROOF. The agreement of slot states, lines, links, attempt numbers, Recovery Queue and plan, slot by slot, and the changes
of one slot that keep it (R99, R107, R111 to R113, R119, R125). -/

namespace Sys2Proof.Machine

open Sys2Proof

/-! ### The agreement of one slot -/

/-- R119, R121, R125: the timers of a plan run only in the phases they belong to. -/
structure Plan.Timed (p : Plan) : Prop where
  holdTick : p.holdTick ≠ none → p.phase = .resetHold
  trainLimit : p.trainLimit ≠ none → p.phase = .training
  settleLimit : p.settleLimit ≠ none → p.phase = .settling
  retryTick : p.retryTick ≠ none → p.phase = .settling ∨ p.phase = .restoring
  delayTick : p.delayTick ≠ none → p.phase = .restoring
  retryLimit : p.retryLimit ≠ none → p.phase = .restoring

/-- R111, R112, R118: what a plan and its slot agree in. -/
structure Plan.Suits (p : Plan) (x : Standing) : Prop where
  attempt : p.attempt = x.attempt
  resetHold : p.phase = .resetHold → x.line = .asserted
  timed : p.Timed

/-- What a plan and its slot agree in turns on the slot's attempt number and its line. -/
theorem Plan.Suits.of_same {p : Plan} {x y : Standing} (h : p.Suits x) (ha : y.attempt = x.attempt) (hl : y.line = x.line) :
    p.Suits y :=
  ⟨h.attempt.trans ha.symm, fun hph => hl.trans (h.resetHold hph), h.timed⟩

/-- What holds of a slot whatever its state. -/
structure Standing.Sound (x : Standing) : Prop where
  linkDown : x.line = .asserted → x.link = .down
  attempt : x.attempt ≤ 7
  limit : x.limit.toNat ≤ 7

/-- What a slot and the plan that it may have agree in, the presence of its card apart. -/
structure Standing.Seated (x : Standing) (plan : Option Plan) : Prop extends x.Sound where
  recovering : x.st = .recovering ↔ x.entry ≠ none ∨ plan ≠ none
  notQueued : plan ≠ none → x.entry = none
  asserted : x.st = .empty ∨ x.st = .offline ∨ x.st = .retired → x.line = .asserted
  noAttempt : x.st ≠ .recovering → x.st ≠ .retired → x.attempt = 0
  queued : ∀ e, x.entry = some e → e.attempt = x.attempt
  planned : ∀ p, plan = some p → p.Suits x

/-- What a slot and the plan that it may have agree in. -/
structure Standing.Agrees (x : Standing) (plan : Option Plan) : Prop extends x.Seated plan where
  presence : x.accepted = .absent ↔ x.st = .empty

/-- Every slot agrees with the plan that it may have. -/
def Roster.Agrees (r : Roster) : Prop := ∀ j, (r.slot j).Agrees (r.planOf j)

/-- Every slot but `i` agrees with the plan that it may have. -/
def Roster.OthersAgree (r : Roster) (i : SlotId) : Prop := ∀ j, j ≠ i → (r.slot j).Agrees (r.planOf j)

/-- The slot states, the lines, the links, the attempt numbers, the queue, the plan and its timers agree. -/
def State.Agreed (s : State) : Prop := s.roster.Agrees

theorem State.planOf_eq_some {s : State} {j : SlotId} {p : Plan} :
    s.roster.planOf j = some p ↔ s.plan = some p ∧ p.slot = j :=
  Roster.planOf_eq_some

/-- The invariant, with the bound on attempt limits that the settings keep to, is the agreement of every slot. -/
theorem SequencerInv.agreed {s : State} (h : SequencerInv s) (hs : SettingsInv s) : s.Agreed := by
  intro j
  have hplan : s.roster.planOf j ≠ none ↔ ∃ p, s.plan = some p ∧ p.slot = j := by
    simp only [Option.ne_none_iff_exists', State.planOf_eq_some]
  refine
    { linkDown := h.linkDown j, attempt := h.attemptBound j, limit := (hs.attemptLimit j).2, presence := h.presence j,
      recovering := by rw [hplan]; exact h.recovering j
      notQueued := fun hp => ?_
      asserted := h.asserted j, noAttempt := h.noAttempt j, queued := h.attemptOfEntry j
      planned := fun p hp => ?_ }
  · obtain ⟨p, hcur, rfl⟩ := hplan.mp hp
    exact h.notQueued p hcur
  · obtain ⟨hcur, rfl⟩ := State.planOf_eq_some.mp hp
    obtain ⟨hold, train, settle, retry, delay, limit⟩ := h.timers p hcur
    exact ⟨h.attemptOfPlan p hcur, h.resetHold p hcur, hold, train, settle, retry, delay, limit⟩

theorem State.Agreed.sequencerInv {s : State} (h : s.Agreed) : SequencerInv s := by
  have suits : ∀ p, s.plan = some p → p.Suits (s.roster.slot p.slot) := fun p hp =>
    (h p.slot).planned p (State.planOf_eq_some.mpr ⟨hp, rfl⟩)
  exact
    { recovering := fun j => by
        have hj := (h j).recovering
        simp only [Option.ne_none_iff_exists' (o := s.roster.planOf j), State.planOf_eq_some] at hj
        exact hj
      notQueued := fun p hp =>
        (h p.slot).notQueued (Option.ne_none_iff_exists'.mpr ⟨p, State.planOf_eq_some.mpr ⟨hp, rfl⟩⟩)
      asserted := fun j => (h j).asserted
      resetHold := fun p hp => (suits p hp).resetHold
      presence := fun j => (h j).presence
      linkDown := fun j => (h j).linkDown
      noAttempt := fun j => (h j).noAttempt
      attemptBound := fun j => (h j).attempt
      attemptOfPlan := fun p hp => (suits p hp).attempt
      timers := fun p hp => by
        obtain ⟨-, -, hold, train, settle, retry, delay, limit⟩ := suits p hp
        exact ⟨hold, train, settle, retry, delay, limit⟩
      attemptOfEntry := fun j => (h j).queued }

/-- What leaves the record as it is keeps the agreement. -/
theorem State.Agreed.of_eq {s t : State} (h : s.Agreed) (e : t.roster = s.roster) : t.Agreed := by
  unfold State.Agreed
  rwa [e]

/-! ### The standings that agree -/

section
variable {x : Standing} {p : Plan}

/-- A slot at rest: neither queued nor under a plan. -/
theorem Standing.Sound.atRest (hs : x.Sound) (hentry : x.entry = none) (hst : x.st ≠ .recovering)
    (hline : x.st = .empty ∨ x.st = .offline ∨ x.st = .retired → x.line = .asserted)
    (hattempt : x.st ≠ .retired → x.attempt = 0) (hacc : x.accepted = .absent ↔ x.st = .empty) : x.Agrees none where
  toSound := hs
  recovering := by simp [hst, hentry]
  notQueued := fun h => absurd rfl h
  asserted := hline
  noAttempt := fun _ => hattempt
  queued := fun e he => by rw [hentry] at he; cases he
  planned := fun _ h => nomatch h
  presence := hacc

/-- A slot that is queued. -/
theorem Standing.Sound.queued {e : QueueEntry} (hs : x.Sound) (hentry : x.entry = some e) (hst : x.st = .recovering)
    (hattempt : e.attempt = x.attempt) (hacc : x.accepted ≠ .absent) : x.Agrees none where
  toSound := hs
  recovering := by simp [hst, hentry]
  notQueued := fun h => absurd rfl h
  asserted := fun h => by rw [hst] at h; rcases h with h | h | h <;> cases h
  noAttempt := fun h => absurd hst h
  queued := fun d hd => by rw [hentry] at hd; cases hd; exact hattempt
  planned := fun _ h => nomatch h
  presence := ⟨fun h => absurd h hacc, fun h => by rw [hst] at h; cases h⟩

/-- A slot under the current plan. -/
theorem Standing.Sound.planned (hs : x.Sound) (hentry : x.entry = none) (hst : x.st = .recovering) (hp : p.Suits x)
    (hacc : x.accepted ≠ .absent) : x.Agrees (some p) where
  toSound := hs
  recovering := by simp [hst]
  notQueued := fun _ => hentry
  asserted := fun h => by rw [hst] at h; rcases h with h | h | h <;> cases h
  noAttempt := fun h => absurd hst h
  queued := fun d hd => by rw [hentry] at hd; cases hd
  planned := fun q hq => by cases hq; exact hp
  presence := ⟨fun h => absurd h hacc, fun h => by rw [hst] at h; cases h⟩

theorem Standing.Agrees.present {plan : Option Plan} (h : x.Agrees plan) (hst : x.st ≠ .empty) : x.accepted ≠ .absent :=
  fun ha => hst (h.presence.mp ha)

/-- A slot that is not RECOVERING is at rest. -/
theorem Standing.Seated.at_rest {plan : Option Plan} (h : x.Seated plan) (hst : x.st ≠ .recovering) :
    x.entry = none ∧ plan = none := by
  have hnone := mt h.recovering.mpr hst
  simpa using hnone

/-! ### Assert and release commands -/

theorem Standing.asserted_eq : x.asserted = { x with line := .asserted, link := x.asserted.link } := by
  unfold Standing.asserted
  split
  · next h => rw [← h]
  · rfl

@[simp] theorem Standing.asserted_st : x.asserted.st = x.st := by rw [Standing.asserted_eq]
@[simp] theorem Standing.asserted_line : x.asserted.line = .asserted := by rw [Standing.asserted_eq]
@[simp] theorem Standing.asserted_accepted : x.asserted.accepted = x.accepted := by rw [Standing.asserted_eq]
@[simp] theorem Standing.asserted_attempt : x.asserted.attempt = x.attempt := by rw [Standing.asserted_eq]
@[simp] theorem Standing.asserted_limit : x.asserted.limit = x.limit := by rw [Standing.asserted_eq]
@[simp] theorem Standing.asserted_entry : x.asserted.entry = x.entry := by rw [Standing.asserted_eq]

/-- R107: an assert command forces the link DOWN. -/
theorem Standing.Sound.asserted (h : x.Sound) : x.asserted.Sound where
  linkDown _ := by
    unfold Standing.asserted
    split
    · next hl => exact h.linkDown hl
    · rfl
  attempt := by rw [Standing.asserted_attempt]; exact h.attempt
  limit := by rw [Standing.asserted_limit]; exact h.limit

theorem Standing.released_eq : x.released = { x with line := .released, link := x.released.link } := by
  unfold Standing.released
  split
  · rfl
  · next h =>
    have hline : x.line = .released := by cases hl : x.line <;> simp_all
    rw [← hline]

end

/-! ### Changes of one slot and of its plan -/

section
variable {r : Roster} {i : SlotId} {f : Standing → Standing} {q : Option Plan}

theorem Roster.Agrees.others (h : r.Agrees) (i : SlotId) : r.OthersAgree i := fun j _ => h j

/-- A change of one slot that leaves it in agreement. -/
theorem Roster.OthersAgree.onSlot (h : r.OthersAgree i) (hx : (f (r.slot i)).Agrees (r.planOf i)) :
    (r.onSlot i f).Agrees := by
  intro j
  by_cases hj : j = i
  · subst hj
    rw [Roster.onSlot_slot_same]
    exact hx
  · rw [Roster.onSlot_slot_of_ne _ _ _ _ hj]
    exact h j hj

/-- A change of one slot, with the plan changed from none or one of that slot to none or one of that slot. -/
theorem Roster.OthersAgree.onSlot_withPlan (h : r.OthersAgree i) (hold : ∀ p, r.plan = some p → p.slot = i)
    (hnew : ∀ p, q = some p → p.slot = i) (hx : (f (r.slot i)).Agrees q) : ((r.onSlot i f).withPlan q).Agrees := by
  intro j
  by_cases hj : j = i
  · subst hj
    have hq : ((r.onSlot j f).withPlan q).planOf j = q := by
      cases q with
      | none => rfl
      | some p => exact Roster.planOf_eq_some.mpr ⟨rfl, hnew p rfl⟩
    rw [hq, Roster.withPlan_slot, Roster.onSlot_slot_same]
    exact hx
  · have hj' := h j hj
    rw [Roster.planOf_of_other hold hj] at hj'
    rw [Roster.planOf_of_other (r := (r.onSlot i f).withPlan q) hnew hj, Roster.withPlan_slot,
      Roster.onSlot_slot_of_ne _ _ _ _ hj]
    exact hj'

/-- A change of one slot that ends its plan, if it has one. -/
theorem Roster.OthersAgree.onSlot_withoutPlan (h : r.OthersAgree i) (hold : ∀ p, r.plan = some p → p.slot = i)
    (hx : (f (r.slot i)).Agrees none) : ((r.onSlot i f).withPlan none).Agrees :=
  h.onSlot_withPlan hold (fun _ hq => nomatch hq) hx

/-- Slot `i` is neither queued nor under a plan, and every other slot agrees. -/
structure Roster.LetGo (r : Roster) (i : SlotId) : Prop where
  others : r.OthersAgree i
  sound : (r.slot i).Sound
  entry : (r.slot i).entry = none
  plan : r.planOf i = none

/-- A slot that the sequencer has let go comes to rest. -/
theorem Roster.LetGo.settles (h : r.LetGo i) (hx : (f (r.slot i)).Agrees none) : (r.onSlot i f).Agrees :=
  h.others.onSlot (by rw [h.plan]; exact hx)

/-- A slot under no plan leaves the queue. -/
theorem Roster.OthersAgree.letGo_onSlot (h : r.OthersAgree i) (hplan : r.planOf i = none) (hs : (f (r.slot i)).Sound)
    (he : (f (r.slot i)).entry = none) : (r.onSlot i f).LetGo i where
  others j hj := by
    rw [Roster.onSlot_slot_of_ne _ _ _ _ hj]
    exact h j hj
  sound := by rwa [Roster.onSlot_slot_same]
  entry := by rwa [Roster.onSlot_slot_same]
  plan := hplan

/-- The plan of a slot ends, and the slot is not queued. -/
theorem Roster.OthersAgree.letGo_withoutPlan (h : r.OthersAgree i) (hold : ∀ p, r.plan = some p → p.slot = i)
    (hs : (f (r.slot i)).Sound) (he : (f (r.slot i)).entry = none) : ((r.onSlot i f).withPlan none).LetGo i := by
  have hgone : (r.withPlan none).OthersAgree i := fun j hj => by
    have hj' := h j hj
    rwa [Roster.planOf_of_other hold hj] at hj'
  exact hgone.letGo_onSlot rfl hs he

/-- A slot at rest is let go. -/
theorem Roster.OthersAgree.letGo (h : r.OthersAgree i) (hx : (r.slot i).Seated (r.planOf i))
    (hst : (r.slot i).st ≠ .recovering) : r.LetGo i :=
  ⟨h, hx.toSound, (hx.at_rest hst).1, (hx.at_rest hst).2⟩

end

end Sys2Proof.Machine

/-! PROOF. The Recovery Sequencer keeps the agreement: the grant, the end of a plan, its failure and its steps (R111 to R134). -/

namespace Sys2Proof.Machine

open Sys2Proof

section
variable {s : State} {i : SlotId} {p q : Plan}

/-! ### The queue and the grant (R113, R115, R118) -/

/-- A slot with a Recovery Queue entry is RECOVERING and under no plan (R111, R113). -/
theorem Standing.Seated.of_entry {x : Standing} {plan : Option Plan} {e : QueueEntry} (h : x.Seated plan)
    (he : x.entry = some e) : x.st = .recovering ∧ plan = none := by
  have hne : x.entry ≠ none := by rw [he]; exact Option.some_ne_none e
  exact ⟨h.recovering.mpr (.inl hne), by_contra fun hp => hne (h.notQueued hp)⟩

/-- A slot that is RECOVERING is no empty one. -/
theorem Standing.Agrees.present_of_recovering {x : Standing} {plan : Option Plan} (h : x.Agrees plan)
    (hst : x.st = .recovering) : x.accepted ≠ .absent :=
  h.present (by rw [hst]; decide)

/-- The slot of the current plan is RECOVERING and not queued (R111, R113). -/
theorem State.Agreed.of_plan (h : s.Agreed) (hp : s.plan = some p) :
    (s.roster.slot p.slot).st = .recovering ∧ (s.roster.slot p.slot).entry = none ∧ p.Suits (s.roster.slot p.slot) := by
  have hof : s.roster.planOf p.slot = some p := State.planOf_eq_some.mpr ⟨hp, rfl⟩
  have hne : s.roster.planOf p.slot ≠ none := by rw [hof]; exact Option.some_ne_none p
  exact ⟨(h p.slot).recovering.mpr (.inr hne), (h p.slot).notQueued hne, (h p.slot).planned p hof⟩

theorem State.plan_slot_eq (hp : s.plan = some p) (q : Plan) (hq : s.roster.plan = some q) : q.slot = p.slot := by
  rw [State.roster_plan, hp] at hq
  cases hq
  rfl

/-- A queue entry is changed in its level or its eligibility (R114, R115). -/
theorem State.Agreed.setQueue {e d : QueueEntry} (h : s.Agreed) (he : s.queue[i] = some e) (hd : d.attempt = e.attempt) :
    (s.setQueue i (some d)).Agreed := by
  have hentry : (s.roster.slot i).entry = some e := he
  obtain ⟨hst, hplan⟩ := (h i).toSeated.of_entry hentry
  unfold State.Agreed
  rw [State.setQueue_roster]
  refine (h.others i).onSlot ?_
  rw [hplan]
  exact Standing.Sound.queued ⟨(h i).linkDown, (h i).attempt, (h i).limit⟩ rfl hst
    (hd.trans ((h i).queued e hentry)) ((h i).present_of_recovering hst)

theorem grantedPlan_timed (now : Tick) (e : QueueEntry) (holdMs : Byte) : (grantedPlan now i e holdMs).Timed where
  holdTick _ := rfl
  trainLimit h := absurd rfl h
  settleLimit h := absurd rfl h
  retryTick h := absurd rfl h
  delayTick h := absurd rfl h
  retryLimit h := absurd rfl h

/-- R118: the slot leaves the queue for the plan, with its line asserted. -/
theorem State.Agreed.grant (h : s.Agreed) (hidle : s.plan = none) : (s.grant i).Agreed := by
  unfold State.grant
  split
  · exact h
  · next e he =>
    have hi := h i
    have hentry : (s.roster.slot i).entry = some e := he
    unfold State.Agreed
    simp only [State.raise_roster, State.assertLine_roster, State.setPlan_roster, State.setQueue_roster,
      Roster.withPlan_onSlot, Roster.onSlot_onSlot]
    refine (h.others i).onSlot_withPlan (fun q hq => ?_) (fun q hq => by cases hq; rfl) (Standing.Sound.planned ?_ ?_ ?_ ?_ ?_)
    · rw [State.roster_plan, hidle] at hq
      cases hq
    · exact Standing.Sound.asserted ⟨hi.linkDown, hi.attempt, hi.limit⟩
    · rw [Standing.asserted_entry]
    · rw [Standing.asserted_st]
      exact (hi.toSeated.of_entry hentry).1
    · refine ⟨?_, fun _ => Standing.asserted_line, grantedPlan_timed _ _ _⟩
      rw [Standing.asserted_attempt]
      exact hi.queued e hentry
    · rw [Standing.asserted_accepted]
      exact hi.present_of_recovering (hi.toSeated.of_entry hentry).1

theorem State.Agreed.grantIfIdle (h : s.Agreed) : s.grantIfIdle.Agreed := by
  unfold State.grantIfIdle
  split
  · exact h
  · next hidle =>
    split
    · exact h.grant (by simpa using hidle)
    · exact h

/-! ### The end of a plan (R132 to R134) -/

/-- R131, R132: the standing of a slot that leaves the sequencer at a stop request. -/
def Standing.stopped (x : Standing) : Standing :=
  { x with st := if x.line = .asserted then .offline else .fenced, attempt := 0, entry := none }

theorem Standing.stopped_agrees {x : Standing} (hs : x.Sound) (hacc : x.accepted ≠ .absent) : x.stopped.Agrees none := by
  refine Standing.Sound.atRest ⟨hs.linkDown, Nat.zero_le 7, hs.limit⟩ rfl ?_ ?_ (fun _ => rfl) ⟨fun h => absurd h hacc, ?_⟩
  all_goals
    unfold Standing.stopped
    dsimp only
    split <;> simp_all

theorem Roster.onSlot_congr {r : Roster} {f g : Standing → Standing} (h : f (r.slot i) = g (r.slot i)) :
    r.onSlot i f = r.onSlot i g := by
  unfold Roster.onSlot
  rw [h]

/-- R132: the slot of a plan that is stopped, which is not queued. -/
theorem State.stopPlan_roster (he : (s.roster.slot p.slot).entry = none) :
    (s.stopPlan p).roster = (s.roster.onSlot p.slot Standing.stopped).withPlan none := by
  unfold State.stopPlan
  simp only [State.endOrderOf_roster, State.raise_roster, State.setAttempt_roster, State.setSlotState_roster,
    State.setPlan_roster, State.endOwner_roster, Roster.withPlan_onSlot, Roster.onSlot_onSlot]
  refine congrArg (Roster.withPlan · none) (Roster.onSlot_congr ?_)
  unfold Standing.stopped
  rw [← he]
  rfl

theorem State.Agreed.stopPlan (h : s.Agreed) (hp : s.plan = some p) : (s.stopPlan p).Agreed := by
  obtain ⟨hst, hentry, -⟩ := h.of_plan hp
  unfold State.Agreed
  rw [State.stopPlan_roster hentry]
  exact (h.others p.slot).onSlot_withoutPlan (State.plan_slot_eq hp)
    (Standing.stopped_agrees (h p.slot).toSound ((h p.slot).present_of_recovering hst))

/-- R116: the slot of the current plan returns to the queue, or a stop request is acted on. -/
theorem State.Agreed.setAside (h : s.Agreed) : s.setAside.Agreed := by
  unfold State.setAside
  split
  · exact h
  · next p hp =>
    obtain ⟨hst, -, hsuits⟩ := h.of_plan hp
    split
    · split
      · exact h.stopPlan hp
      · unfold State.Agreed
        rw [State.onSlot_roster_of_kept]
        simp only [State.setPlan_roster, State.setQueue_roster, State.assertLine_roster, Roster.onSlot_onSlot]
        have hsound := (h p.slot).toSound.asserted
        refine (h.others p.slot).onSlot_withoutPlan (State.plan_slot_eq hp)
          (Standing.Sound.queued ⟨hsound.linkDown, hsound.attempt, hsound.limit⟩ rfl ?_ ?_ ?_)
        · exact Standing.asserted_st.trans hst
        · exact hsuits.attempt.trans Standing.asserted_attempt.symm
        · exact fun ha => (h p.slot).present_of_recovering hst (Standing.asserted_accepted.symm.trans ha)
    · exact h

theorem State.Agreed.arbitrate (h : s.Agreed) : s.arbitrate.Agreed := h.setAside.grantIfIdle

/-- R113: a slot at rest with its card joins the queue. -/
theorem State.Agreed.joinQueue {level : Level} (h : s.Agreed) (hst : (s.roster.slot i).st ≠ .recovering)
    (hcard : (s.roster.slot i).st ≠ .empty) : (s.joinQueue i level).Agreed := by
  refine State.Agreed.arbitrate ?_
  unfold State.Agreed
  simp only [State.raise_roster, State.setQueue_roster, State.setAttempt_roster, State.setSlotState_roster,
    Roster.onSlot_onSlot]
  exact ((h.others i).letGo (h i).toSeated hst).settles
    (Standing.Sound.queued ⟨(h i).linkDown, (by decide : 1 ≤ 7), (h i).limit⟩ rfl rfl rfl ((h i).present hcard))

/-! ### Failure (R128 to R130) -/

theorem State.fileFailure_roster (reason : Reason) (c : Option Dword) : (s.fileFailure p reason c).roster = s.roster := by
  unfold State.fileFailure
  simp

theorem State.Agreed.retireAfterFailure {why failure : Reason} {b : Dword} (h : s.Agreed) (hp : s.plan = some p) :
    (s.retireAfterFailure p why failure b).Agreed := by
  obtain ⟨hst, hentry, -⟩ := h.of_plan hp
  refine State.Agreed.grantIfIdle ?_
  unfold State.Agreed
  simp only [State.endOrderOf_roster, State.raise_roster, State.fileIncident_roster, State.setSlotState_roster,
    State.assertLine_roster, State.setPlan_roster, Roster.withPlan_onSlot, Roster.onSlot_onSlot]
  have hsound := (h p.slot).toSound.asserted
  have hcard := (h p.slot).present_of_recovering hst
  refine (h.others p.slot).onSlot_withoutPlan (State.plan_slot_eq hp)
    (Standing.Sound.atRest ⟨hsound.linkDown, hsound.attempt, hsound.limit⟩ ?_ nofun ?_ ?_ ?_)
  · exact Standing.asserted_entry.trans hentry
  · exact fun _ => Standing.asserted_line
  · exact fun h => absurd rfl h
  · exact ⟨fun ha => absurd (Standing.asserted_accepted.symm.trans ha) hcard, nofun⟩

theorem State.Agreed.requeue (h : s.Agreed) (hp : s.plan = some p) (hk : p.attempt < 7) : (s.requeue p).Agreed := by
  obtain ⟨hst, -, -⟩ := h.of_plan hp
  refine State.Agreed.grantIfIdle ?_
  unfold State.Agreed
  simp only [State.setQueue_roster, State.setAttempt_roster, State.setPlan_roster, Roster.withPlan_onSlot,
    Roster.onSlot_onSlot]
  exact (h.others p.slot).onSlot_withoutPlan (State.plan_slot_eq hp)
    (Standing.Sound.queued ⟨(h p.slot).linkDown, hk, (h p.slot).limit⟩ rfl hst rfl ((h p.slot).present_of_recovering hst))

theorem State.plan_of_roster {t : State} (h : t.roster = s.roster) : t.plan = s.plan := congrArg Roster.plan h

/-- R128 to R130: the attempt limit in force bounds the attempt that follows. -/
theorem State.Agreed.failAttempt {reason : Reason} {c : Option Dword} (h : s.Agreed) (hp : s.plan = some p) :
    (s.failAttempt p reason c).Agreed := by
  have hfiled := h.of_eq (s.fileFailure_roster (p := p) reason c)
  have hpfiled : (s.fileFailure p reason c).plan = some p := (State.plan_of_roster (State.fileFailure_roster reason c)).trans hp
  unfold State.failAttempt
  dsimp only
  split
  · exact hfiled.retireAfterFailure hpfiled
  · split
    · next hk => exact hfiled.requeue hpfiled (hk.trans_le (h p.slot).limit)
    · exact hfiled.retireAfterFailure hpfiled

/-! ### The steps of a plan (R119 to R126) -/

/-- Plan `q` can stand in the place of plan `p`. -/
structure Plan.Follows (q p : Plan) : Prop where
  slot : q.slot = p.slot
  attempt : q.attempt = p.attempt
  resetHold : q.phase = .resetHold → p.phase = .resetHold
  timed : q.Timed

theorem State.Agreed.setPlan (h : s.Agreed) (hp : s.plan = some p) (hq : q.Follows p) : (s.setPlan (some q)).Agreed := by
  obtain ⟨hst, hentry, hsuits⟩ := h.of_plan hp
  unfold State.Agreed
  rw [State.setPlan_roster, ← Roster.onSlot_eq_self s.roster p.slot id rfl]
  refine (h.others p.slot).onSlot_withPlan (State.plan_slot_eq hp) (fun d hd => by cases hd; exact hq.slot)
    (Standing.Sound.planned (h p.slot).toSound hentry hst ?_ ((h p.slot).present_of_recovering hst))
  exact ⟨hq.attempt.trans hsuits.attempt, fun hph => hsuits.resetHold (hq.resetHold hph), hq.timed⟩

theorem State.Agreed.planIssues (h : s.Agreed) (hp : s.plan = some p) (hq : q.Follows p) : (s.planIssues q).Agreed :=
  (h.setPlan hp hq).of_eq (State.issueController_roster _ _ _)

/-- R126: the slot returns to ACTIVE and its attempt number to 0. -/
theorem State.Agreed.planSucceeds (h : s.Agreed) (hp : s.plan = some p) (hq : q.slot = p.slot) :
    (s.planSucceeds q).Agreed := by
  obtain ⟨hst, hentry, -⟩ := h.of_plan hp
  have hcard := (h p.slot).present_of_recovering hst
  refine State.Agreed.grantIfIdle ?_
  unfold State.Agreed
  simp only [State.setPlan_roster, State.endOrderOf_roster, State.raise_roster, State.setAttempt_roster,
    State.fileIncident_roster, State.becomeActive_roster, Roster.onSlot_onSlot, hq]
  exact (h.others p.slot).onSlot_withoutPlan (State.plan_slot_eq hp)
    (Standing.Sound.atRest ⟨(h p.slot).linkDown, Nat.zero_le 7, (h p.slot).limit⟩ hentry nofun (by simp) (fun _ => rfl)
      ⟨fun ha => absurd ha hcard, nofun⟩)

theorem State.Agreed.restoreFrom {cursor : Nat} (h : s.Agreed) (hp : s.plan = some p) (hq : q.Follows p) :
    (s.restoreFrom q cursor).Agreed := by
  unfold State.restoreFrom
  dsimp only
  split
  · exact h.planIssues hp ⟨hq.slot, hq.attempt, hq.resetHold, { hq.timed with retryLimit := fun hn => absurd rfl hn }⟩
  · exact h.planSucceeds hp hq.slot

theorem State.Agreed.recordDone (h : s.Agreed) (hp : s.plan = some p) (hq : q.Follows p) (hph : q.phase = .restoring) :
    (s.recordDone q).Agreed := by
  unfold State.recordDone
  split
  · exact h.restoreFrom hp ⟨hq.slot, hq.attempt, hq.resetHold, { hq.timed with }⟩
  · exact h.setPlan hp ⟨hq.slot, hq.attempt, hq.resetHold,
      { hq.timed with delayTick := fun _ => hph, retryLimit := fun hn => absurd rfl hn }⟩

theorem Plan.Suits.follows {x : Standing} (h : p.Suits x) : p.Follows p := ⟨rfl, rfl, id, h.timed⟩

theorem State.Agreed.retryRecord (h : s.Agreed) (hp : s.plan = some p) (hph : p.phase = .restoring) :
    (s.retryRecord p).Agreed := by
  obtain ⟨-, -, hsuits⟩ := h.of_plan hp
  unfold State.retryRecord
  exact h.setPlan hp ⟨rfl, rfl, id, { hsuits.timed with retryTick := fun _ => .inr hph, retryLimit := fun _ => hph }⟩

/-- R121: SETTLING ends, and with it the settle limit. -/
theorem State.Agreed.identityAnswered {v : Dword} (h : s.Agreed) (hp : s.plan = some p) (hph : p.phase = .settling) :
    (s.identityAnswered p v).Agreed := by
  obtain ⟨-, -, hsuits⟩ := h.of_plan hp
  unfold State.identityAnswered
  dsimp only
  split
  · exact h.failAttempt hp
  · exact h.restoreFrom hp ⟨rfl, rfl, nofun,
      { holdTick := fun hn => absurd (hsuits.timed.holdTick hn) (by rw [hph]; decide)
        trainLimit := fun hn => absurd (hsuits.timed.trainLimit hn) (by rw [hph]; decide)
        settleLimit := fun hn => absurd rfl hn
        retryTick := fun _ => .inr rfl
        delayTick := fun _ => rfl
        retryLimit := fun _ => rfl }⟩

theorem State.Agreed.settlingResult {result : RequestResult} (h : s.Agreed) (hp : s.plan = some p)
    (hph : p.phase = .settling) : (s.settlingResult p result).Agreed := by
  obtain ⟨-, -, hsuits⟩ := h.of_plan hp
  unfold State.settlingResult
  split
  · exact h.identityAnswered hp hph
  · exact h.setPlan hp ⟨rfl, rfl, id, { hsuits.timed with retryTick := fun _ => .inl hph }⟩
  · exact h.failAttempt hp

theorem State.Agreed.recordAnswered {v : Dword} (h : s.Agreed) (hp : s.plan = some p) (hph : p.phase = .restoring) :
    (s.recordAnswered p v).Agreed := by
  obtain ⟨-, -, hsuits⟩ := h.of_plan hp
  have hwrote : ∀ (n : Nat) (step : PlanStep), ({ p with written := n, step := step } : Plan).Follows p :=
    fun _ _ => ⟨rfl, rfl, id, { hsuits.timed with }⟩
  unfold State.recordAnswered
  split
  · dsimp only
    split
    · exact h.planIssues hp (hwrote _ _)
    · exact h.recordDone hp (hwrote _ p.step) hph
  · split
    · exact h.recordDone hp hsuits.follows hph
    · exact h.failAttempt hp

theorem State.Agreed.restoringResult {result : RequestResult} (h : s.Agreed) (hp : s.plan = some p)
    (hph : p.phase = .restoring) : (s.restoringResult p result).Agreed := by
  unfold State.restoringResult
  split
  · exact h.recordAnswered hp hph
  · exact h.retryRecord hp hph
  · exact h.failAttempt hp
  · exact h.failAttempt hp

/-- R132: an event of the plan, or a stop request in its place. -/
theorem State.Agreed.planEvent {act : Plan → State → State} (h : s.Agreed) (hp : s.plan = some p) (ha : (act p s).Agreed) :
    (s.planEvent p act).Agreed := by
  unfold State.planEvent
  split
  · exact (h.stopPlan hp).grantIfIdle
  · exact ha

theorem State.Agreed.planResult {result : RequestResult} (h : s.Agreed) : (s.planResult i result).Agreed := by
  unfold State.planResult
  split
  · exact h
  · next p hp =>
    split
    · refine h.planEvent hp ?_
      split
      · next hph => exact h.settlingResult hp hph
      · next hph => exact h.restoringResult hp hph
      · exact h
      · exact h
    · exact h

theorem State.Agreed.ownerResult {o : RequestOwner} {result : RequestResult} (h : s.Agreed) :
    (s.ownerResult i o result).Agreed := by
  cases o with
  | capture => exact h.of_eq (State.captureResult_roster _ _ _)
  | plan => exact h.planResult

theorem State.Agreed.enterSettling (h : s.Agreed) (hp : s.plan = some p) (hph : p.phase = .training) :
    (s.enterSettling p).Agreed := by
  obtain ⟨-, -, hsuits⟩ := h.of_plan hp
  unfold State.enterSettling
  exact h.planIssues hp ⟨rfl, rfl, nofun,
    { holdTick := fun hn => absurd (hsuits.timed.holdTick hn) (by rw [hph]; decide)
      trainLimit := fun hn => absurd rfl hn
      settleLimit := fun _ => rfl
      retryTick := fun _ => .inl rfl
      delayTick := fun hn => absurd (hsuits.timed.delayTick hn) (by rw [hph]; decide)
      retryLimit := fun hn => absurd (hsuits.timed.retryLimit hn) (by rw [hph]; decide) }⟩

/-- R119: the line of the plan's slot is released, and no other timer than the train limit runs. -/
theorem State.Agreed.enterTraining (h : s.Agreed) (hp : s.plan = some p) (hph : p.phase = .resetHold) :
    (s.enterTraining p).Agreed := by
  obtain ⟨hst, hentry, hsuits⟩ := h.of_plan hp
  unfold State.enterTraining State.Agreed
  rw [State.setPlan_roster, State.releaseLine_roster]
  refine (h.others p.slot).onSlot_withPlan (State.plan_slot_eq hp) (fun d hd => by cases hd; rfl) ?_
  rw [Standing.released_eq]
  exact Standing.Sound.planned ⟨nofun, (h p.slot).attempt, (h p.slot).limit⟩ hentry hst
    ⟨hsuits.attempt, nofun,
      { holdTick := fun hn => absurd rfl hn
        trainLimit := fun _ => rfl
        settleLimit := fun hn => absurd (hsuits.timed.settleLimit hn) (by rw [hph]; decide)
        retryTick := fun hn => absurd (hsuits.timed.retryTick hn) (by rw [hph]; decide)
        delayTick := fun hn => absurd (hsuits.timed.delayTick hn) (by rw [hph]; decide)
        retryLimit := fun hn => absurd (hsuits.timed.retryLimit hn) (by rw [hph]; decide) }⟩
    ((h p.slot).present_of_recovering hst)

/-- R114: an adoption raises a level. -/
theorem State.Agreed.adopt {level : Level} (h : s.Agreed) : (s.adopt i level).Agreed := by
  unfold State.adopt
  split
  · exact h
  · split
    · next e he => exact State.Agreed.arbitrate (h.setQueue he rfl)
    · split
      · next p hp =>
        obtain ⟨-, -, hsuits⟩ := h.of_plan hp
        split
        · exact h.setPlan hp ⟨rfl, rfl, id, { hsuits.timed with }⟩
        · exact h
      · exact h

/-! ### The sequencer gives a slot up (R133, R134) -/

/-- R132 to R134: the slot is let go, whatever its presence line shows, and its accepted presence stands. -/
theorem State.giveUp_letGo {atRemoval : Bool} (ho : s.roster.OthersAgree i) (hi : (s.roster.slot i).Seated (s.roster.planOf i)) :
    (s.giveUp i atRemoval).roster.LetGo i ∧
      ((s.giveUp i atRemoval).roster.slot i).accepted = (s.roster.slot i).accepted := by
  have hsound : ({ s.roster.slot i with entry := none } : Standing).Sound := ⟨hi.linkDown, hi.attempt, hi.limit⟩
  unfold State.giveUp
  dsimp only
  rw [State.setQueue_plan]
  split
  · next p hp =>
    split
    · next hslot =>
      subst hslot
      split
      · rw [State.stopPlan_roster (by simp)]
        simp only [State.setQueue_roster, Roster.onSlot_onSlot]
        exact ⟨ho.letGo_withoutPlan (State.plan_slot_eq hp) ⟨hi.linkDown, Nat.zero_le 7, hi.limit⟩ rfl,
          by simp [Standing.stopped]⟩
      · simp only [State.abandonPlan, State.setPlan_roster, State.endOwner_roster, State.setQueue_roster]
        exact ⟨ho.letGo_withoutPlan (State.plan_slot_eq hp) hsound rfl, by simp⟩
    · next hslot =>
      rw [State.setQueue_roster]
      refine ⟨ho.letGo_onSlot (Roster.planOf_eq_none.mpr fun q hq hs => hslot ?_) hsound rfl, by simp⟩
      rwa [← State.plan_slot_eq hp q hq]
  · next hp =>
    rw [State.setQueue_roster]
    refine ⟨ho.letGo_onSlot (Roster.planOf_eq_none.mpr fun q hq => ?_) hsound rfl, by simp⟩
    rw [State.roster_plan, hp] at hq
    cases hq

end

end Sys2Proof.Machine

/-! PROOF. Fences, orders, software writes, resets, traffic, port events and expiries keep the agreement of slot states, lines,
links, attempt numbers, queue and plan; so does every step. -/

namespace Sys2Proof.Machine

open Sys2Proof

section
variable {s : State} {i : SlotId}

/-! ### Fences and retirement (R68 to R77) -/

/-- R77: a slot with its card that the sequencer has let go is retired, with its line asserted. -/
theorem Roster.LetGo.retireByOrder {taken : SlotState} (h : s.roster.LetGo i)
    (hcard : (s.roster.slot i).accepted ≠ .absent) : (s.retireByOrder i taken).Agreed := by
  unfold State.Agreed
  rw [State.retireByOrder_roster]
  have hsound : ({ s.roster.slot i with st := .retired } : Standing).Sound := ⟨h.sound.linkDown, h.sound.attempt, h.sound.limit⟩
  refine h.settles (Standing.Sound.atRest hsound.asserted ?_ ?_ (fun _ => Standing.asserted_line) ?_ ?_)
  · exact Standing.asserted_entry.trans h.entry
  · rw [Standing.asserted_st]
    nofun
  · exact fun hne => absurd Standing.asserted_st hne
  · rw [Standing.asserted_accepted, Standing.asserted_st]
    exact ⟨fun ha => absurd ha hcard, nofun⟩

theorem State.Agreed.letGo (h : s.Agreed) (hst : (s.roster.slot i).st ≠ .recovering) : s.roster.LetGo i :=
  (h.others i).letGo (h i).toSeated hst

/-- The states of a slot that holds a card outside the sequencer, under no assert command. -/
def SlotState.InService (st : SlotState) : Prop := st = .active ∨ st = .fencing ∨ st = .fenced

/-- R62, R68, R71, R76: a slot goes from one of those states to another. -/
theorem State.Agreed.changeState {t : State} {st : SlotState} (h : s.Agreed)
    (ht : t.roster = s.roster.onSlot i fun x => { x with st := st })
    (hold : (s.roster.slot i).st.InService) (hst : st.InService) : t.Agreed := by
  have hne : (s.roster.slot i).st ≠ .recovering ∧ (s.roster.slot i).st ≠ .empty ∧ (s.roster.slot i).st ≠ .retired := by
    rcases hold with h | h | h <;> rw [h] <;> decide
  obtain ⟨hrec, hempty, hretired⟩ := hne
  unfold State.Agreed
  rw [ht]
  refine (h.letGo hrec).settles (Standing.Sound.atRest ⟨(h i).linkDown, (h i).attempt, (h i).limit⟩
    (h.letGo hrec).entry ?_ ?_ (fun _ => (h i).noAttempt hrec hretired) ⟨fun ha => absurd ha ((h i).present hempty), ?_⟩)
  all_goals rcases hst with rfl | rfl | rfl <;> simp

/-- R73: the follow-up of a fence. -/
theorem State.Agreed.applyFollowUp (h : s.Agreed) (hst : (s.roster.slot i).st = .fenced) : (s.applyFollowUp i).Agreed := by
  have hrec : (s.roster.slot i).st ≠ .recovering := by rw [hst]; decide
  have hempty : (s.roster.slot i).st ≠ .empty := by rw [hst]; decide
  have hcleared : (s.onCu i fun c => { c with followUp := .none }).roster = s.roster := State.onCu_roster_of_kept s i
  have hs1 := h.of_eq hcleared
  unfold State.applyFollowUp
  dsimp only
  split
  · refine Roster.LetGo.retireByOrder (hs1.letGo ?_) ?_ <;> rw [hcleared]
    · exact hrec
    · exact (h i).present hempty
  · exact hs1.joinQueue (by rwa [hcleared]) (by rwa [hcleared])
  · split
    · exact hs1.joinQueue (by rwa [hcleared]) (by rwa [hcleared])
    · exact hs1

/-- R71: the closure of a fence. -/
theorem State.Agreed.closeFence (h : s.Agreed) (hst : (s.roster.slot i).st = .fencing) : (s.closeFence i).Agreed := by
  unfold State.closeFence
  refine State.Agreed.applyFollowUp (h.changeState (st := .fenced) (i := i) ?_ (.inr (.inl hst)) (.inr (.inr rfl))) ?_
  all_goals simp

/-- R68: a fence begins in ACTIVE. -/
theorem State.Agreed.beginFence {cause : FenceCause} (h : s.Agreed) (hst : (s.roster.slot i).st = .active) :
    (s.beginFence i cause).Agreed := by
  have hbegun : (s.onCu i fun c => { c with
      st := .fencing, cause := cause, tally := { start := s.now, completions := 0, requests := 0 } }).roster =
      s.roster.onSlot i fun x => { x with st := .fencing } := State.onCu_roster s i .fencing rfl
  have hagreed := h.changeState hbegun (.inl hst) (.inr (.inl rfl))
  unfold State.beginFence
  dsimp only
  split
  · exact State.Agreed.closeFence (hagreed.of_eq (by simp)) (by simp [hbegun])
  · exact hagreed.of_eq (by simp)

theorem State.Agreed.endGraceIfEmpty (h : s.Agreed) : (s.endGraceIfEmpty i).Agreed := by
  unfold State.endGraceIfEmpty
  dsimp only
  split
  · next hc => exact h.closeFence hc.1
  · exact h

theorem State.Agreed.takeTrigger (h : s.Agreed) : (s.takeTrigger i).Agreed := by
  unfold State.takeTrigger
  dsimp only
  split
  · exact h
  · next t rest _ =>
    have htaken : (s.onCu i fun c => { c with triggers := rest }).roster = s.roster := State.onCu_roster_of_kept s i
    split
    · next hc => exact (h.of_eq htaken).beginFence (by rw [htaken]; exact hc.1)
    · exact h.of_eq htaken

theorem State.Agreed.planLinkLoss (h : s.Agreed) : (s.planLinkLoss i).Agreed := by
  unfold State.planLinkLoss
  split
  · exact h
  · next p hp =>
    split
    · exact h.planEvent hp (h.failAttempt hp)
    · exact h

theorem State.Agreed.reportLinkLoss (h : s.Agreed) : (s.reportLinkLoss i).Agreed := by
  unfold State.reportLinkLoss
  split
  · next hst => exact h.beginFence hst
  · next hst =>
    split
    · exact h.closeFence hst
    · exact h
  · exact h.planLinkLoss
  all_goals exact h

theorem State.Agreed.takeFatalMessage {requesterId : BitVec 16} (h : s.Agreed) (hst : (s.roster.slot i).st = .active) :
    (s.takeFatalMessage i requesterId).Agreed := by
  unfold State.takeFatalMessage
  dsimp only
  split
  · exact State.Agreed.beginFence (h.of_eq (by simp)) (by simpa using hst)
  · exact h.of_eq (by simp)

/-! ### Orders (R76 to R78, R155, R158, R160) -/

theorem State.takeSettings_roster : (s.takeSettings i).roster =
    s.roster.onSlot i fun x => { x with limit := (s.slots[i]).cells.clamped.attemptLimit } :=
  s.onSlot_roster i _ fun _ => rfl

/-- R161: the attempt limit that an APPLY puts in force is within its range. -/
theorem State.Agreed.takeSettings (h : s.Agreed) : (s.takeSettings i).Agreed := by
  unfold State.Agreed
  rw [State.takeSettings_roster]
  have hi := h i
  exact (h.others i).onSlot
    { hi with
      limit := (SlotSettings.clamped_inRange _).attemptLimit.2
      planned := fun p hp => (hi.planned p hp).of_same rfl rfl }

theorem State.Agreed.orderApply (h : s.Agreed) : (s.orderApply i).Agreed := by
  unfold State.orderApply
  dsimp only
  split
  · exact h.of_eq (by simp)
  · split
    · exact h.of_eq (by simp)
    · split
      · exact h.of_eq (by simp)
      · exact (h.takeSettings (i := i)).of_eq (by simp)

theorem State.Agreed.orderCapture (h : s.Agreed) : (s.orderCapture i).Agreed := by
  refine h.of_eq ?_
  unfold State.orderCapture
  split <;> simp

theorem State.Agreed.orderFence (h : s.Agreed) : (s.orderFence i).Agreed := by
  refine h.of_eq ?_
  unfold State.orderFence
  split <;> simp

theorem State.Agreed.orderRecover {level : Level} (h : s.Agreed) : (s.orderRecover i level).Agreed := by
  have joins : ∀ st : SlotState, (s.slots[i]).cu.st = st → st ≠ .recovering → st ≠ .empty → (s.joinQueue i level).Agreed :=
    fun st hst hrec hempty => h.joinQueue (fun hr => hrec (hst.symm.trans hr)) fun he => hempty (hst.symm.trans he)
  unfold State.orderRecover
  split
  · next hst => exact joins _ hst (by decide) (by decide)
  · next hst => exact joins _ hst (by decide) (by decide)
  · exact h.of_eq (by simp)
  · exact h.of_eq (by simp)
  · exact h.adopt
  · exact h.of_eq (by simp)
  · exact h.of_eq (by simp)

theorem State.Agreed.orderLift (h : s.Agreed) : (s.orderLift i).Agreed := by
  unfold State.orderLift
  dsimp only
  split
  · next hst =>
    split
    · exact h.changeState (i := i) (st := .active) (by simp) (.inr (.inr hst)) (.inl rfl)
    · exact h.of_eq (by simp)
  · exact h.of_eq (by simp)

theorem State.Agreed.orderRetire (h : s.Agreed) : (s.orderRetire i).Agreed := by
  have retires : ∀ st : SlotState, (s.slots[i]).cu.st = st → st ≠ .recovering → st ≠ .empty →
      ∀ taken, (s.retireByOrder i taken).Agreed := fun st hst hrec hempty taken =>
    (h.letGo fun hr => hrec (hst.symm.trans hr)).retireByOrder ((h i).present fun he => hempty (hst.symm.trans he))
  unfold State.orderRetire
  split
  · next hst => exact retires _ hst (by decide) (by decide) _
  · next hst => exact retires _ hst (by decide) (by decide) _
  · next hst =>
    obtain ⟨hgone, hacc⟩ := State.giveUp_letGo (atRemoval := false) (h.others i) (h i).toSeated
    refine State.Agreed.grantIfIdle (hgone.retireByOrder ?_)
    rw [hacc]
    exact (h i).present_of_recovering hst
  · exact h.of_eq (by simp)
  · exact h.of_eq (by simp)
  · exact h.of_eq (by simp)
  · exact h.of_eq (by simp)

theorem State.Agreed.orderReinstate (h : s.Agreed) : (s.orderReinstate i).Agreed := by
  unfold State.orderReinstate
  split
  · next hst =>
    have hrec : (s.roster.slot i).st ≠ .recovering := fun hr => absurd (hst.symm.trans hr) (by decide)
    have hempty : (s.roster.slot i).st ≠ .empty := fun he => absurd (hst.symm.trans he) (by decide)
    have hline := (h i).asserted (.inr (.inr hst))
    unfold State.Agreed
    simp only [State.endOrder_roster, State.raise_roster, State.setAttempt_roster, State.setSlotState_roster,
      Roster.onSlot_onSlot]
    exact (h.letGo hrec).settles (Standing.Sound.atRest ⟨(h i).linkDown, Nat.zero_le 7, (h i).limit⟩ (h.letGo hrec).entry
      nofun (fun _ => hline) (fun _ => rfl) ⟨fun ha => absurd ha ((h i).present hempty), nofun⟩)
  · exact h.of_eq (by simp)

theorem State.Agreed.judgeOrder {code : Byte} {level : Level} (h : s.Agreed) : (s.judgeOrder i code level).Agreed := by
  unfold State.judgeOrder
  split
  · exact h.orderApply
  · exact h.orderCapture
  · exact h.orderFence
  · exact h.orderRecover
  · exact h.orderLift
  · exact h.orderRetire
  · exact h.orderReinstate
  · exact h.of_eq (by simp)

theorem State.Agreed.writeOrderCell {w : CellWrite} (h : s.Agreed) : (s.writeOrderCell i w).Agreed := by
  unfold State.writeOrderCell
  dsimp only
  split
  · split
    · exact h.of_eq (by simp)
    · split
      · exact State.Agreed.judgeOrder (h.of_eq (by simp))
      · exact h.of_eq (by simp)
  · exact h

theorem State.Agreed.handOver {code : Byte} {number : BitVec 16} {priority : Byte} (h : s.Agreed) :
    (s.handOver i code number priority).Agreed := h.writeOrderCell

/-- R131: a cancel takes a slot out of the queue. -/
theorem State.Agreed.cancelQueued {e : QueueEntry} (h : s.Agreed) (he : s.queue[i] = some e) : (s.cancelQueued i).Agreed := by
  have hentry : (s.roster.slot i).entry = some e := he
  obtain ⟨hst, hplan⟩ := (h i).toSeated.of_entry hentry
  unfold State.cancelQueued State.Agreed
  simp only [State.endOrder_roster, State.raise_roster, State.setAttempt_roster, State.setSlotState_roster,
    State.setQueue_roster, Roster.onSlot_onSlot]
  refine (h.others i).onSlot ?_
  rw [hplan]
  exact Standing.stopped_agrees (h i).toSound ((h i).present_of_recovering hst)

theorem State.Agreed.cancelRecover (h : s.Agreed) : (s.cancelRecover i).Agreed := by
  unfold State.cancelRecover
  dsimp only
  split
  · exact h.of_eq (by simp)
  · exact h.of_eq (by simp)
  · split
    · next hq =>
      obtain ⟨e, he⟩ := Option.isSome_iff_exists.mp hq
      exact h.cancelQueued he
    · split
      · next p hp =>
        obtain ⟨-, -, hsuits⟩ := h.of_plan hp
        split
        · exact h.setPlan hp ⟨rfl, rfl, id, { hsuits.timed with }⟩
        · exact h
      · exact h
  all_goals exact h

theorem State.Agreed.takeCancel (h : s.Agreed) : (s.takeCancel i).Agreed := by
  unfold State.takeCancel
  dsimp only
  split
  · split
    · exact h.of_eq (by simp)
    · split
      · exact State.Agreed.cancelRecover (h.of_eq (by simp))
      · exact h.of_eq (by simp)
  · exact h

end

end Sys2Proof.Machine

/-! PROOF. Resets, software writes, traffic, port events and expiries keep the agreement of slot states, lines, links, attempt
numbers, queue and plan; so does every step. -/

namespace Sys2Proof.Machine

open Sys2Proof

section
variable {s : State} {i : SlotId}

/-- A change outside the slots, the queue and the plan. -/
theorem State.roster_of_kept {t : State} (hs : t.slots = s.slots := by rfl) (hq : t.queue = s.queue := by rfl)
    (hp : t.plan = s.plan := by rfl) : t.roster = s.roster := by
  unfold State.roster
  rw [hs, hq, hp]

/-! ### Resets (R41, R63, R110, R166) -/

/-- A machine without plan and queue in which every slot is at rest. -/
theorem State.agreed_of_at_rest {t : State} (hp : t.plan = none)
    (hx : ∀ j : SlotId, ((t.slots[j]).standing t.queue[j]).Agrees none) : t.Agreed := by
  intro j
  have hnone : t.roster.planOf j = none := Roster.planOf_eq_none.mpr fun q hq => by
    rw [State.roster_plan, hp] at hq
    cases hq
  rw [hnone]
  exact hx j

theorem Slot.reset_agrees : (Slot.reset.standing none).Agrees none :=
  Standing.Sound.atRest ⟨fun _ => rfl, Nat.zero_le 7, by decide⟩ rfl nofun (fun _ => rfl) (fun _ => rfl)
    ⟨fun _ => rfl, fun _ => rfl⟩

theorem State.powerOn_agreed : s.powerOn.Agreed :=
  State.agreed_of_at_rest rfl fun j => by
    rw [State.powerOn_slot, State.powerOn_queue]
    exact Slot.reset_agrees

/-- R63, R110: a slot at a hierarchy reset: EMPTY as it was or OFFLINE, with its line asserted. -/
theorem Slot.hierarchyReset_agrees {sl : Slot} {e : Option QueueEntry} {plan : Option Plan} (now : Tick)
    (h : (sl.standing e).Agrees plan) : ((sl.hierarchyReset now).standing none).Agrees none := by
  have hline : (sl.hierarchyReset now).port.line = .asserted := by
    rw [sl.hierarchyReset_port now]
    dsimp only
    split
    · rfl
    · next hf =>
      by_cases he : sl.cu.st = .empty
      · exact h.asserted (.inl he)
      · cases hl : sl.port.line with
        | released => exact absurd ⟨he, hl⟩ hf
        | asserted => rfl
  have hlink : (sl.hierarchyReset now).port.link = .down := by
    rw [sl.hierarchyReset_port now] at hline ⊢
    dsimp only at hline ⊢
    split
    · rfl
    · next hf =>
      rw [if_neg hf] at hline
      exact h.linkDown hline
  have hst : (sl.hierarchyReset now).cu.st = if sl.cu.st = .empty then .empty else .offline := rfl
  refine Standing.Sound.atRest ⟨fun _ => hlink, Nat.zero_le 7, h.limit⟩ rfl ?_ (fun _ => hline) (fun _ => rfl) ?_
  · show (sl.hierarchyReset now).cu.st ≠ .recovering
    rw [hst]
    split <;> decide
  · show (sl.hierarchyReset now).port.accepted = .absent ↔ (sl.hierarchyReset now).cu.st = .empty
    rw [sl.hierarchyReset_port now, hst]
    refine Iff.trans h.presence ?_
    show sl.cu.st = .empty ↔ _
    by_cases he : sl.cu.st = .empty <;> simp [he]

theorem State.Agreed.hierarchyReset (h : s.Agreed) : s.hierarchyReset.Agreed :=
  State.agreed_of_at_rest rfl fun j => by
    rw [State.hierarchyReset_slot, State.hierarchyReset_queue]
    exact Slot.hierarchyReset_agrees s.now (h j)

theorem State.Agreed.linkReset (h : s.Agreed) : s.linkReset.Agreed := h.hierarchyReset.of_eq rfl

theorem State.Agreed.commandedReset (h : s.Agreed) : s.commandedReset.Agreed := by
  unfold State.commandedReset
  dsimp only
  split
  · exact h.hierarchyReset.of_eq (by simp)
  · exact h.hierarchyReset

/-! ### Software writes (R150 to R152, R171) -/

theorem State.applyDevice_roster (s : State) : s.applyDevice.roster = s.roster := rfl

theorem State.Agreed.deviceControl {v : Byte} (h : s.Agreed) : (s.deviceControl v).Agreed := by
  have happlied : (if v.getLsbD 0 then s.applyDevice else s).Agreed := by
    split
    · exact h.of_eq s.applyDevice_roster
    · exact h
  unfold State.deviceControl
  dsimp only
  split
  · exact happlied.commandedReset
  · exact happlied

theorem State.writeAttn_roster (enables : BitVec 4) (value : Dword) : (s.writeAttn enables value).roster = s.roster := rfl

theorem State.writeAttnEnable_roster (enables : BitVec 4) (value : Dword) :
    (s.writeAttnEnable enables value).roster = s.roster := rfl

theorem State.writeIncidentState_roster (k : Fin 8) (v : Byte) : (s.writeIncidentState i k v).roster = s.roster := by
  unfold State.writeIncidentState
  simp

theorem State.writeCancel_roster (v : Byte) : (s.writeCancel i v).roster = s.roster := by
  unfold State.writeCancel
  split <;> simp

/-- R151: what a byte of a slot page stores is a cell, a record or a latched cancel. -/
theorem State.storePageByte_roster (off : Nat) (v : Byte) : (s.storePageByte i off v).roster = s.roster := by
  unfold State.storePageByte
  split
  · rfl
  split
  · split
    · exact State.writeCancel_roster v
    · rfl
  split
  · rfl
  split
  · exact State.onSlot_roster_of_kept s i
  split
  · rfl
  split
  · split
    · exact State.writeIncidentState_roster _ v
    · rfl
  split
  · exact State.onSlot_roster_of_kept s i
  split
  · exact State.onSlot_roster_of_kept s i
  · rfl

theorem State.storeDeviceByte_roster (a : Nat) (v : Byte) : (s.storeDeviceByte a v).roster = s.roster := by
  unfold State.storeDeviceByte
  split
  · exact State.writeAttn_roster _ _
  split
  · exact State.writeAttnEnable_roster _ _
  split
  · exact State.roster_of_kept
  · rfl

theorem State.Agreed.storeByte {a : Nat} {v : Byte} (h : s.Agreed) : (s.storeByte a v).Agreed := by
  refine h.of_eq ?_
  unfold State.storeByte
  split
  · exact State.storeDeviceByte_roster a v
  · split
    · exact State.storePageByte_roster _ v
    · rfl

theorem State.Agreed.writeWindow {w : WindowWrite} (h : s.Agreed) : (s.writeWindow w).Agreed := by
  have hstored : ((enabledOffsets w).foldl (fun s w => s.storeByte w.1 w.2) s).Agreed :=
    List.foldlRecOn (motive := State.Agreed) _ _ h fun _ hu _ _ => hu.storeByte
  have hcontrolled : (((enabledOffsets w).foldl (fun s w => s.storeByte w.1 w.2) s).deviceControlOf
      (enabledOffsets w)).Agreed := by
    unfold State.deviceControlOf
    split
    · exact hstored.deviceControl
    · exact hstored
  exact List.foldlRecOn (motive := State.Agreed) _ _ hcontrolled fun _ hu _ _ => hu.writeOrderCell

/-! ### Card traffic (R28 to R37) -/

theorem State.forwardMatched_roster (b : OrtBody) (c : Completion) : (s.forwardMatched b c).roster = s.roster := by
  unfold State.forwardMatched
  split
  · rfl
  · split <;> rfl

theorem State.shadowOf_roster (b : OrtBody) (c : Completion) : (s.shadowOf i b c).roster = s.roster := by
  unfold State.shadowOf
  split
  · rfl
  · split <;> simp

theorem State.fileOverrun_roster (k : Fin 32) (b : OrtBody) (c : Completion) :
    (s.fileOverrun i k b c).roster = s.roster := by
  unfold State.fileOverrun
  split <;> simp

theorem State.Agreed.passResult {b : OrtBody} {c : Completion} (h : s.Agreed) : (s.passResult i b c).Agreed := by
  unfold State.passResult
  split
  · exact h.ownerResult
  · exact h

theorem State.Agreed.takeMatched {k : Fin 32} {b : OrtBody} {c : Completion} (h : s.Agreed) :
    (s.takeMatched i k b c).Agreed := by
  unfold State.takeMatched
  dsimp only
  split
  · refine State.Agreed.passResult (h.of_eq ?_)
    rw [State.fileOverrun_roster, State.shadowOf_roster, State.freeEntry_roster, State.forwardMatched_roster]
  · exact h.of_eq ((State.onTracker_roster _ _ _).trans (State.forwardMatched_roster b c))

theorem State.Agreed.afterMatched {st : SlotState} (h : s.Agreed) : (s.afterMatched i st).Agreed := by
  have hprogress : (s.reportProgress i).Agreed := h.of_eq (by simp)
  unfold State.afterMatched
  split
  · exact hprogress
  · exact hprogress.endGraceIfEmpty
  all_goals exact h

theorem State.Agreed.cardCompletion {c : Completion} (h : s.Agreed) : (s.cardCompletion i c).Agreed := by
  unfold State.cardCompletion
  dsimp only
  split
  · split
    · exact h.takeMatched.afterMatched
    · exact h.of_eq (by simp)
  · exact h.of_eq (by simp)

theorem State.cardPosted_roster (p : HostPacket) : (s.cardPosted i p).roster = s.roster := by
  unfold State.cardPosted
  split <;> simp

theorem State.Agreed.cardMessage {m : CardMessage} (h : s.Agreed) : (s.cardMessage i m).Agreed := by
  have hposted := State.cardPosted_roster (s := s) (i := i) (.message m)
  unfold State.cardMessage
  dsimp only
  split
  · next hc => exact (h.of_eq hposted).takeFatalMessage (by rw [hposted]; exact hc.1)
  · exact h.of_eq hposted

theorem State.cardOther_roster (requesterId : BitVec 16) (tag : BitVec 10) (nonPosted : Bool) :
    (s.cardOther i requesterId tag nonPosted).roster = s.roster := by
  unfold State.cardOther
  split <;> simp

/-! ### Host traffic (R14, R90 to R93) -/

theorem State.Agreed.slotPosted {p : CardPacket} (h : s.Agreed) : (s.slotPosted i p).Agreed := by
  refine h.of_eq ?_
  unfold State.slotPosted
  split <;> simp

theorem State.Agreed.hostMemWrite {r : MemRequest} {data : List Dword} (h : s.Agreed) : (s.hostMemWrite r data).Agreed := by
  unfold State.hostMemWrite
  split
  · exact h.writeWindow
  · exact h.slotPosted
  · exact h.of_eq rfl
  · exact h.of_eq rfl

theorem State.Agreed.hostMessage {m : HostMessage} (h : s.Agreed) : (s.hostMessage m).Agreed := by
  unfold State.hostMessage
  split
  · exact h
  · split
    · exact h.slotPosted
    · exact h.of_eq rfl
  · exact List.foldlRecOn (motive := State.Agreed) _ _ h fun _ hu _ _ => hu.slotPosted

theorem State.returnMatched_roster (k : Fin 16) (b : ReturnBody) (c : Completion) :
    (s.returnMatched i k b c).roster = s.roster := by
  have htaken : (if (s.slots[i]).cu.st = .active then
      s.pushOutbound i (.completion { c with requesterId := b.requesterId, tag := b.tag }) else s.countStale i).roster =
      s.roster := by
    split <;> simp
  unfold State.returnMatched
  dsimp only
  split
  · rw [State.freeReturn_roster, htaken]
  · rw [State.onSlot_roster_of_kept, htaken]

theorem State.Agreed.hostCompletion {c : Completion} (h : s.Agreed) : (s.hostCompletion c).Agreed := by
  refine h.of_eq ?_
  unfold State.hostCompletion
  dsimp only
  split
  · split
    · exact State.returnMatched_roster _ _ _
    · simp
  · simp

/-! ### Port events (R99 to R105) -/

/-- R101: the removal of a card, once its line shows ABSENT. -/
theorem State.cardRemoved_agreed (ho : s.roster.OthersAgree i) (hi : (s.roster.slot i).Seated (s.roster.planOf i))
    (hacc : (s.roster.slot i).accepted = .absent) : (s.cardRemoved i).Agreed := by
  have hgone : (if (s.slots[i]).cu.st = .recovering then s.giveUp i true else s).roster.LetGo i ∧
      ((if (s.slots[i]).cu.st = .recovering then s.giveUp i true else s).roster.slot i).accepted = .absent := by
    split
    · obtain ⟨hgone, hkept⟩ := State.giveUp_letGo (atRemoval := true) ho hi
      exact ⟨hgone, hkept.trans hacc⟩
    · next hst => exact ⟨ho.letGo hi hst, hacc⟩
  obtain ⟨hgone, hacc⟩ := hgone
  have hremoved : ((s.removalGivesUp i).abruptClose i .empty).state.removalReports i (s.slots[i]).cu.st (s.phaseOf i)
      ((s.removalGivesUp i).abruptClose i .empty).completions |>.Agreed := by
    unfold State.removalReports State.removalGivesUp State.Agreed
    simp only [State.raise_roster, State.fileIncident_roster, State.endOrder_roster, State.assertLine_roster,
      State.abruptClose_roster, State.setAttempt_roster, Roster.onSlot_onSlot]
    have hsound : ∀ x : Standing, x.Sound → ({ x with attempt := 0, st := .empty } : Standing).Sound :=
      fun x hx => ⟨hx.linkDown, Nat.zero_le 7, hx.limit⟩
    refine hgone.settles (Standing.Sound.atRest (hsound _ hgone.sound).asserted ?_ ?_ (fun _ => Standing.asserted_line)
      (fun _ => Standing.asserted_attempt) ?_)
    · exact Standing.asserted_entry.trans hgone.entry
    · rw [Standing.asserted_st]
      nofun
    · rw [Standing.asserted_st, Standing.asserted_accepted]
      exact ⟨fun _ => rfl, fun _ => hacc⟩
  unfold State.cardRemoved
  dsimp only
  split
  · exact hremoved.grantIfIdle
  · exact hremoved

/-- R99: the machine once the port of slot `i` has read its presence line. -/
def State.reading (s : State) (i : SlotId) (p : Presence) : State :=
  { (s.onPort i fun q => q.sampled p) with wires.presence := s.wires.presence.set i p }

theorem State.presenceSample_of_kept {p : Presence} (h : (s.slots[i]).port.accepts p = false) :
    s.presenceSample i p = s.reading i p := by
  unfold State.presenceSample
  rw [h, if_neg Bool.false_ne_true]
  rfl

theorem State.presenceSample_of_arrival (h : (s.slots[i]).port.accepts .present = true) :
    s.presenceSample i .present = (s.reading i .present).cardArrives i := by
  unfold State.presenceSample
  rw [h, if_pos rfl]
  rfl

theorem State.presenceSample_of_removal (h : (s.slots[i]).port.accepts .absent = true) :
    s.presenceSample i .absent = (s.reading i .absent).cardRemoved i := by
  unfold State.presenceSample
  rw [h, if_pos rfl]
  rfl

/-- R99: what a reading makes of the accepted level. -/
theorem State.reading_roster (p : Presence) : (s.reading i p).roster = s.roster.onSlot i fun x =>
    { x with accepted := if (s.slots[i]).port.accepts p then p else x.accepted } :=
  Eq.trans State.roster_of_kept
    (s.onSlot_roster (f := fun sl => { sl with port := sl.port.sampled p }) i _ fun _ => rfl)

theorem State.reading_roster_of_accepted {p : Presence} (h : (s.slots[i]).port.accepts p = true) :
    (s.reading i p).roster = s.roster.onSlot i fun x => { x with accepted := p } := by
  rw [State.reading_roster, h]
  rfl

/-- R99: an accepted level is not the one accepted before. -/
theorem SlotPort.accepted_ne_of_accepts {q : SlotPort} {p : Presence} (h : q.accepts p = true) : q.accepted ≠ p := by
  unfold SlotPort.accepts at h
  exact bne_iff_ne.mp (Bool.and_eq_true_iff.mp h).1

/-- R99 to R101: a card arrives at an EMPTY slot, and leaves one that is not. -/
theorem State.Agreed.presenceSample {reading : Presence} (h : s.Agreed) : (s.presenceSample i reading).Agreed := by
  cases hacc : (s.slots[i]).port.accepts reading with
  | false =>
    rw [State.presenceSample_of_kept hacc]
    refine h.of_eq ((State.reading_roster reading).trans ?_)
    rw [hacc]
    exact Roster.onSlot_eq_self _ _ _ rfl
  | true =>
    have hread := State.reading_roster_of_accepted hacc
    have hother : (s.roster.slot i).accepted ≠ reading := SlotPort.accepted_ne_of_accepts hacc
    cases reading with
    | present =>
      have hst : (s.roster.slot i).st = .empty := (h i).presence.mp (by
        cases ha : (s.roster.slot i).accepted with
        | absent => rfl
        | present => exact absurd ha hother)
      have hrec : (s.roster.slot i).st ≠ .recovering := by rw [hst]; decide
      rw [State.presenceSample_of_arrival hacc]
      unfold State.cardArrives State.Agreed
      rw [State.raise_roster, State.fileIncident_roster, State.setSlotState_roster, hread, Roster.onSlot_onSlot]
      exact (h.letGo hrec).settles (Standing.Sound.atRest ⟨(h i).linkDown, (h i).attempt, (h i).limit⟩ (h.letGo hrec).entry
        nofun (fun _ => (h i).asserted (.inl hst)) (fun _ => (h i).noAttempt hrec (by rw [hst]; decide)) ⟨nofun, nofun⟩)
    | absent =>
      have hi := h i
      rw [State.presenceSample_of_removal hacc]
      refine State.cardRemoved_agreed ?_ ?_ ?_ <;> rw [hread]
      · intro j hj
        rw [Roster.onSlot_slot_of_ne _ _ _ _ hj]
        exact h j
      · rw [Roster.onSlot_slot_same]
        exact { hi.toSeated with
          planned := fun p hp => (hi.planned p hp).of_same rfl rfl }
      · rw [Roster.onSlot_slot_same]

/-- A link takes another state, and stays DOWN under an ASSERTED line (R104, R107). -/
theorem State.Agreed.changeLink {t : State} {l : LinkState} (h : s.Agreed)
    (ht : t.roster = s.roster.onSlot i fun x => { x with link := l })
    (hl : (s.roster.slot i).line = .asserted → l = .down) : t.Agreed := by
  have hi := h i
  unfold State.Agreed
  rw [ht]
  exact (h.others i).onSlot
    { hi with
      linkDown := hl
      planned := fun p hp => (hi.planned p hp).of_same rfl rfl }

theorem State.Agreed.linkBecomesUp (h : s.Agreed) (hl : (s.slots[i]).port.link = .training) :
    (s.linkBecomesUp i).Agreed := by
  refine h.changeLink (i := i) (l := .up) (s.onSlot_roster i _ fun _ => rfl) fun hline => ?_
  exact absurd (hl.symm.trans ((h i).linkDown hline)) (by decide)

theorem State.Agreed.tellLinkUp (h : s.Agreed) : (s.tellLinkUp i).Agreed := by
  unfold State.tellLinkUp
  split
  · next p hp =>
    split
    · next hc => exact h.planEvent hp (h.enterSettling hp hc.2)
    · exact h
  · exact h

theorem State.Agreed.takeLinkDown (h : s.Agreed) : (s.takeLinkDown i).Agreed :=
  h.changeLink (State.takeLinkDown_roster s i) fun _ => rfl

theorem State.drainOutbound_roster (count : Nat) : (s.drainOutbound i count).roster = s.roster :=
  State.onPort_roster_of_kept (f := fun q => { q with outbound := (s.slots[i]).port.outbound.drop count }) s i

/-! ### Expiries -/

theorem State.Agreed.startReached (h : s.Agreed) : (s.startReached i).Agreed := by
  unfold State.startReached
  split
  · next e he =>
    split
    · exact State.Agreed.arbitrate (h.setQueue he rfl)
    · exact h
  · exact h

/-- A timer of the plan expires only in a phase that it belongs to. -/
theorem State.Agreed.onPlanTimer {timer : Plan → Option Tick} {act : Plan → State → State} (h : s.Agreed)
    (ha : ∀ p, s.plan = some p → timer p ≠ none → (act p s).Agreed) : (s.onPlanTimer timer act).Agreed := by
  unfold State.onPlanTimer
  split
  · next p hp =>
    split
    · next hdue => exact h.planEvent hp (ha p hp fun hnone => by simp [due, hnone] at hdue)
    · exact h
  · exact h

theorem State.Agreed.retryRequest {p : Plan} (h : s.Agreed) (hp : s.plan = some p) : (s.retryRequest p).Agreed := by
  obtain ⟨-, -, hsuits⟩ := h.of_plan hp
  exact h.planIssues hp ⟨rfl, rfl, id, { hsuits.timed with retryTick := fun hn => absurd rfl hn }⟩

theorem State.Agreed.delayEnds {p : Plan} (h : s.Agreed) (hp : s.plan = some p) : (s.delayEnds p).Agreed := by
  obtain ⟨-, -, hsuits⟩ := h.of_plan hp
  exact h.restoreFrom hp ⟨rfl, rfl, id, { hsuits.timed with delayTick := fun hn => absurd rfl hn }⟩

theorem State.reportExpiry_roster (reason : Reason) (index : Nat) (b : OrtBody) :
    (s.reportExpiry i reason index b).roster = s.roster := by
  unfold State.reportExpiry
  simp

theorem State.Agreed.afterExpiry {st : SlotState} (h : s.Agreed) : (s.afterExpiry i st).Agreed := by
  have haction : (s.applyTimeoutAction i).roster = s.roster := by
    unfold State.applyTimeoutAction
    dsimp only
    split
    · simp
    · split <;> simp
  unfold State.afterExpiry
  split
  · exact h.of_eq haction
  · exact h.endGraceIfEmpty
  all_goals exact h

theorem State.Agreed.expireEntry {k : Fin 32} {b : OrtBody} (h : s.Agreed) : (s.expireEntry i k b).Agreed := by
  have hsettled : (s.settleExpired i k b).roster = s.roster := by
    unfold State.settleExpired
    dsimp only
    split <;> simp
  exact State.Agreed.afterExpiry (h.of_eq ((State.reportExpiry_roster _ _ _).trans hsettled))

theorem State.Agreed.expireHeld {position : Nat} {item : HoldItem} (h : s.Agreed) : (s.expireHeld i position item).Agreed := by
  refine State.Agreed.afterExpiry (h.of_eq ((State.reportExpiry_roster _ _ _).trans ?_))
  unfold State.settleHeld
  simp

theorem State.Agreed.expireController {k : Fin 32} {o : RequestOwner} {b : OrtBody} (h : s.Agreed) :
    (s.expireController i k o b).Agreed :=
  State.Agreed.afterExpiry
    (State.Agreed.ownerResult (h.of_eq ((State.reportExpiry_roster _ _ _).trans (State.freeEntry_roster _ _ _))))

theorem State.expireWatch_roster : (s.expireWatch i).roster = s.roster := by
  unfold State.expireWatch
  simp

theorem State.expireReturn_roster (k : Fin 16) (b : ReturnBody) : (s.expireReturn i k b).roster = s.roster := by
  unfold State.expireReturn
  simp

theorem State.Agreed.ite {t u : State} {c : Prop} [Decidable c] (ht : c → t.Agreed) (hu : u.Agreed) :
    (if c then t else u).Agreed := by
  split
  · next hc => exact ht hc
  · exact hu

end

/-! ### Commands and steps -/

/-- Every command is an event whose effect keeps the agreement. -/
theorem State.Agreed.exec_effect {s : State} (h : s.Agreed) (c : Instr) :
    ∃ u, u.Agreed ∧ exec c s = .next (settleInterrupt s u) := by
  cases c with
  | powerOnReset => exact ⟨_, State.powerOn_agreed, rfl⟩
  | upstreamHotReset => exact ⟨_, h.linkReset, rfl⟩
  | upstreamLinkDown => exact ⟨_, h.linkReset, rfl⟩
  | hierarchyReset applyToo => exact ⟨_, h.deviceControl, rfl⟩
  | applyDevice => exact ⟨_, h.deviceControl, rfl⟩
  | attnWrite enables value => exact ⟨_, h.of_eq (State.writeAttn_roster enables value), rfl⟩
  | attnEnableWrite enables value => exact ⟨_, h.of_eq (State.writeAttnEnable_roster enables value), rfl⟩
  | orderApply i number priority => exact ⟨_, h.handOver, rfl⟩
  | orderCapture i number priority => exact ⟨_, h.handOver, rfl⟩
  | orderFence i number priority => exact ⟨_, h.handOver, rfl⟩
  | orderRecover i number priority => exact ⟨_, h.handOver, rfl⟩
  | orderLift i number priority => exact ⟨_, h.handOver, rfl⟩
  | orderRetire i number priority => exact ⟨_, h.handOver, rfl⟩
  | orderReinstate i number priority => exact ⟨_, h.handOver, rfl⟩
  | orderUnknownCode i code number priority => exact ⟨_, h.handOver, rfl⟩
  | orderCellWrite i w => exact ⟨_, h.writeOrderCell, rfl⟩
  | cancelCellWrite i value => exact ⟨_, h.of_eq (State.writeCancel_roster value), rfl⟩
  | cancelTaken i => exact ⟨_, h.takeCancel, rfl⟩
  | incidentStateWrite i k value => exact ⟨_, h.of_eq (State.writeIncidentState_roster k value), rfl⟩
  | swaWrite w => exact ⟨_, h.writeWindow, rfl⟩
  | hostMemRead r => exact ⟨_, h.of_eq (s.arrive_roster _), rfl⟩
  | hostMemWrite r data => exact ⟨_, h.hostMemWrite, rfl⟩
  | hostCfgRead r => exact ⟨_, h.of_eq (s.arrive_roster _), rfl⟩
  | hostCfgWrite r data => exact ⟨_, h.of_eq (s.arrive_roster _), rfl⟩
  | hostMessage m => exact ⟨_, h.hostMessage, rfl⟩
  | hostUnrecognisedRequest requesterId tag nonPosted =>
    exact ⟨_, State.Agreed.ite (fun _ => h.of_eq (s.arrive_roster _)) (h.of_eq s.countUnrouted_roster), rfl⟩
  | hostCompletion c => exact ⟨_, h.hostCompletion, rfl⟩
  | cardCompletion i c => exact ⟨_, h.cardCompletion, rfl⟩
  | cardMemRead i r => exact ⟨_, State.Agreed.ite (fun _ => h) (h.of_eq (s.takeCardRead_roster i r)), rfl⟩
  | cardMemWrite i r data => exact ⟨_, h.of_eq (State.cardPosted_roster (.memWrite r data)), rfl⟩
  | cardMessage i m => exact ⟨_, h.cardMessage, rfl⟩
  | cardConfigRequest i requesterId tag nonPosted =>
    exact ⟨_, State.Agreed.ite (fun _ => h) (h.of_eq (State.cardOther_roster requesterId tag nonPosted)), rfl⟩
  | waitingHostRequestRetaken => exact ⟨_, h.of_eq s.retakeFirst_roster, rfl⟩
  | cardReadHandover i => exact ⟨_, h.of_eq (s.handOverRead_roster i), rfl⟩
  | presenceSample i reading => exact ⟨_, h.presenceSample, rfl⟩
  | linkUp i => exact ⟨_, State.Agreed.ite (fun hl => (h.linkBecomesUp hl).tellLinkUp) h, rfl⟩
  | linkLoss i =>
    exact ⟨_, State.Agreed.ite (fun _ => State.Agreed.reportLinkLoss (h.takeLinkDown.of_eq (State.fileIncident_roster _ _ _ _ _ _ _))) h, rfl⟩
  | deadlineExpiry i k =>
    refine ⟨_, ?_, rfl⟩
    dsimp only
    split
    · exact h.expireEntry
    · exact h
  | heldItemExpiry i position =>
    refine ⟨_, ?_, rfl⟩
    dsimp only
    split
    · exact h.expireHeld
    · exact h
  | controllerEntryExpiry i k =>
    refine ⟨_, ?_, rfl⟩
    dsimp only
    split
    · exact h.expireController
    · exact h
  | progressWatchExpiry i => exact ⟨_, State.Agreed.ite (fun _ => h.of_eq State.expireWatch_roster) h, rfl⟩
  | fenceTrigger i => exact ⟨_, h.takeTrigger, rfl⟩
  | graceExpiry i =>
    refine ⟨_, State.Agreed.ite (fun hdue => h.closeFence ?_) h, rfl⟩
    simp only [State.graceDue, Bool.and_eq_true, beq_iff_eq] at hdue
    exact hdue.1
  | returnLifetimeExpiry i k =>
    refine ⟨_, ?_, rfl⟩
    dsimp only
    split
    · exact h.of_eq (State.expireReturn_roster _ _)
    · exact h
  | earliestStartReached i => exact ⟨_, h.startReached, rfl⟩
  | planGrant => exact ⟨_, h.grantIfIdle, rfl⟩
  | holdTickExpiry =>
    refine ⟨s.onPlanTimer (·.holdTick) fun p s => s.enterTraining p, h.onPlanTimer fun p hp hn => h.enterTraining hp ?_, rfl⟩
    obtain ⟨-, -, hsuits⟩ := h.of_plan hp
    exact hsuits.timed.holdTick hn
  | trainLimitExpiry =>
    exact ⟨s.onPlanTimer (·.trainLimit) fun p s => s.failAttempt p .trainTimeout none,
      h.onPlanTimer fun _ hp _ => h.failAttempt hp, rfl⟩
  | settleLimitExpiry =>
    exact ⟨s.onPlanTimer (·.settleLimit) fun p s => s.failAttempt p .settleTimeout none,
      h.onPlanTimer fun _ hp _ => h.failAttempt hp, rfl⟩
  | retryTickExpiry =>
    exact ⟨s.onPlanTimer (·.retryTick) fun p s => s.retryRequest p, h.onPlanTimer fun _ hp _ => h.retryRequest hp, rfl⟩
  | delayTickExpiry =>
    exact ⟨s.onPlanTimer (·.delayTick) fun p s => s.delayEnds p, h.onPlanTimer fun _ hp _ => h.delayEnds hp, rfl⟩
  | retryLimitExpiry =>
    exact ⟨s.onPlanTimer (·.retryLimit) fun p s => s.failAttempt p .settleTimeout none,
      h.onPlanTimer fun _ hp _ => h.failAttempt hp, rfl⟩
  | outboundBufferDrain i count =>
    exact ⟨_, State.Agreed.ite (fun _ => h.of_eq (State.drainOutbound_roster count)) h, rfl⟩

theorem State.Agreed.exec {s t : State} {c : Instr} (h : s.Agreed) (ht : exec c s = .next t) : t.Agreed := by
  obtain ⟨u, hu, he⟩ := h.exec_effect c
  rw [he, settleInterrupt_eq] at ht
  cases ht
  exact hu.of_eq rfl

/-- R43, R99: one microsecond runs the sample timers on and changes no standing. -/
theorem State.Agreed.tick {s : State} (h : s.Agreed) : s.tick.Agreed :=
  h.of_eq (Roster.ext (funext fun j => by
    unfold State.roster State.tick
    dsimp only
    rw [getElem_mapVector]
    rfl) rfl)

/-- Settles O59: the invariant is the agreement of every slot with its plan, every command's effect keeps it, and a step is a
command or the passing of a microsecond. -/
theorem sequencerKept : Obligations.SequencerKept := by
  intro s t hsettings hs ht
  have h := hs.agreed hsettings
  refine State.Agreed.sequencerInv ?_
  unfold step at ht
  split at ht
  · next c rest _ =>
    have hrest : ({ s with pending := rest } : State).Agreed := h.of_eq rfl
    exact hrest.exec ht
  · split at ht
    · exact h.exec ht
    · cases ht
      exact h.tick

end Sys2Proof.Machine

/-! PROOF. The hold tick (R107, R119, R132) and the presence samples (R99, R100). -/

namespace Sys2Proof.Machine

open Sys2Proof

section
variable {s : State} {i : SlotId} {p : Plan}

/-! ### The expiry of a plan's timer (R111, R132) -/

section
variable {timer : Plan → Option Tick} {act : Plan → State → State}

theorem State.onPlanTimer_of_idle (h : s.plan = none) : s.onPlanTimer timer act = s := by
  unfold State.onPlanTimer
  rw [h]

theorem State.onPlanTimer_of_not_reached (hp : s.plan = some p) (h : (timer p).any (reached s.now) = false) :
    s.onPlanTimer timer act = s := by
  unfold State.onPlanTimer due
  rw [hp]
  dsimp only
  rw [h, if_neg Bool.false_ne_true]

theorem State.onPlanTimer_of_reached (hp : s.plan = some p) (h : (timer p).any (reached s.now) = true) :
    s.onPlanTimer timer act = s.planEvent p act := by
  unfold State.onPlanTimer due
  rw [hp]
  dsimp only
  rw [h, if_pos rfl]

end

theorem State.planEvent_of_stopped (hstop : p.stop = true) (s : State) (act : Plan → State → State) :
    s.planEvent p act = (s.stopPlan p).grantIfIdle := by
  unfold State.planEvent
  rw [hstop, if_pos rfl]

/-- R132: what a stop request has done at the slot of a plan that has no request in the slot's Tracker. -/
def planStopped (s : State) (p : Plan) : Effect :=
  { Effect.none s p.slot with
    slot := { s.slots[p.slot] with
      cu := { (s.slots[p.slot]).cu with st := if (s.slots[p.slot]).port.line = .asserted then .offline else .fenced },
      attempt := 0, ou := (s.slots[p.slot]).ouEnding s.now 4 .cancelled .none (BitVec.ofNat 32 p.attempt) 0 0 },
    attn := s.attn ||| attentionMask p.slot .stateChange ||| doneMask p.slot s.slots[p.slot] 4, plan := none }

theorem State.stopPlan_of_noPlanRequest (h : NoPlanRequest s.slots[p.slot]) :
    s.stopPlan p = s.did p.slot (planStopped s p) := by
  unfold State.stopPlan
  dsimp only
  rw [State.endOwner_of_noPlanRequest s p.slot h]
  have hnone := s.did_none p.slot
  generalize hline : (if (s.slots[p.slot]).port.line = .asserted then SlotState.offline else .fenced) = st
  rw [← hnone, State.did_setPlan, State.did_setSlotState, State.did_setAttempt, State.did_raise, State.did_endOrderOf, hnone]
  unfold planStopped
  rw [hline]
  rfl

/-! ### The hold tick (R119) -/

theorem State.releaseLine_of_asserted (h : (s.slots[i]).port.line = .asserted) :
    s.releaseLine i = s.onSlot i fun sl => { sl with port := { sl.port with line := .released, link := .training } } :=
  if_pos h

/-- Settles O46: the hold tick takes effect only where it is reached, and a stop request takes its place. -/
theorem holdTickExpiry : Obligations.HoldTickExpiry := by
  intro s
  have kept : s.onPlanTimer (·.holdTick) (fun p s => s.enterTraining p) = s → exec .holdTickExpiry s = .next s :=
    event_next_self (s := s) (f := fun s => s.onPlanTimer (·.holdTick) fun p s => s.enterTraining p)
  refine ⟨fun hidle => kept (State.onPlanTimer_of_idle hidle), ?_⟩
  intro p hp i sl
  refine ⟨fun h => kept (State.onPlanTimer_of_not_reached hp h), fun h hstop hline => ?trains, fun h hstop hn he => ?stops⟩
  case trains =>
    refine event_next_of_kept (f := fun s => s.onPlanTimer (·.holdTick) fun p s => s.enterTraining p) ?_ rfl rfl
    rw [State.onPlanTimer_of_reached hp h, State.planEvent_of_not_stopped hstop]
    unfold State.enterTraining
    rw [State.releaseLine_of_asserted hline]
    rfl
  case stops =>
    have hstopped : s.onPlanTimer (·.holdTick) (fun p s => s.enterTraining p) = s.did p.slot (planStopped s p) := by
      rw [State.onPlanTimer_of_reached hp h, State.planEvent_of_stopped hstop, State.stopPlan_of_noPlanRequest hn]
      exact State.did_grantIfIdle (.inr he)
    exact event_did (f := fun s => s.onPlanTimer (·.holdTick) fun p s => s.enterTraining p) hstopped

/-! ### Presence samples (R99, R100) -/

theorem SlotPort.sampled_of_same {q : SlotPort} {l : Presence} (h : q.accepted = l) :
    q.accepts l = false ∧ q.sampled l = { q with runCount := 0, sampleTimer := 1000 } := by
  have hacc : q.accepts l = false := by simp [SlotPort.accepts, h]
  refine ⟨hacc, ?_⟩
  unfold SlotPort.sampled
  rw [hacc, if_neg Bool.false_ne_true, if_pos (.inl h)]

theorem SlotPort.sampled_of_run {q : SlotPort} {l : Presence} (h : q.accepted ≠ l) (hrun : q.runCount < 7) :
    q.accepts l = false ∧ q.sampled l = { q with runCount := q.runCount + 1, sampleTimer := 1000 } := by
  have hacc : q.accepts l = false := by simp [SlotPort.accepts, hrun]
  refine ⟨hacc, ?_⟩
  unfold SlotPort.sampled
  rw [hacc, if_neg Bool.false_ne_true, if_neg (by simp [h])]

theorem SlotPort.sampled_of_eighth {q : SlotPort} {l : Presence} (h : q.accepted ≠ l) (hrun : q.runCount = 7) :
    q.accepts l = true ∧ q.sampled l = { q with accepted := l, runCount := 0, sampleTimer := 1000 } := by
  have hacc : q.accepts l = true := by simp [SlotPort.accepts, h, hrun]
  refine ⟨hacc, ?_⟩
  unfold SlotPort.sampled
  rw [hacc, if_pos rfl, if_pos (.inr rfl)]

/-- R99: a reading that brings no level to acceptance. -/
theorem exec_presenceSample_of_kept {l : Presence} {q : SlotPort}
    (h : (s.slots[i]).port.accepts l = false ∧ (s.slots[i]).port.sampled l = q) :
    exec (.presenceSample i l) s = .next { s with
      slots := s.slots.set i { s.slots[i] with port := q }, wires := { s.wires with presence := s.wires.presence.set i l } } := by
  obtain ⟨hacc, rfl⟩ := h
  exact event_next_of_kept (f := fun s => s.presenceSample i l) (State.presenceSample_of_kept hacc) rfl rfl

/-- R100: what the arrival of a card has done at its slot. -/
def cardArrived (s : State) (i : SlotId) : Effect :=
  { Effect.none s i with
    slot := { s.slots[i] with
      port := (s.slots[i]).port.sampled .present, cu := { (s.slots[i]).cu with st := .offline },
      inc := (s.slots[i]).inc.file (incidentAt s 1 .cardPresent .offline .none (s.slots[i]).port.epoch (s.slots[i]).attempt .none
        none none none) },
    attn := s.attn ||| attentionMask i .incident ||| attentionMask i .stateChange, filed := 1 }

theorem State.cardArrives_reading (s : State) (i : SlotId) : (s.reading i .present).cardArrives i =
    { s.did i (cardArrived s i) with
      wires := { (s.did i (cardArrived s i)).wires with presence := s.wires.presence.set i .present } } := by
  have hread : s.reading i .present =
      ({ s with wires := { s.wires with presence := s.wires.presence.set i .present } } : State).did i
        { Effect.none s i with slot := { s.slots[i] with port := (s.slots[i]).port.sampled .present } } := by
    simp [State.reading, State.onPort, State.onSlot, State.did, Effect.none]
  rw [hread]
  unfold State.cardArrives
  rw [State.did_setSlotState, State.did_fileIncident (phase := .none), State.did_raise]
  · rfl
  · exact State.did_phaseOf nofun

/-- Settles O52: a reading is counted or accepted by the run count before it, and an accepted one of PRESENT is an arrival. -/
theorem presenceSamples : Obligations.PresenceSamples := by
  intro i reading s sl run read counted
  refine ⟨fun hacc => exec_presenceSample_of_kept (SlotPort.sampled_of_same hacc),
    fun hacc hrun => exec_presenceSample_of_kept (SlotPort.sampled_of_run hacc hrun), fun hacc hreading hrun => ?arrives⟩
  case arrives =>
    subst hreading
    have hother : sl.port.accepted ≠ .present := by rw [hacc]; decide
    obtain ⟨haccepts, hsampled⟩ := SlotPort.sampled_of_eighth hother hrun
    refine (event_next (f := fun s => s.presenceSample i .present)
      ((State.presenceSample_of_arrival haccepts).trans (State.cardArrives_reading s i))).trans ?_
    unfold cardArrived
    rw [hsampled]
    rfl

end

end Sys2Proof.Machine

/-! PROOF. The entry that the grant chooses, the set-aside of a plan for it, and the earliest start tick (R115, R116, R118). -/

namespace Sys2Proof.Machine

open Sys2Proof

section
variable {s t : State} {i : SlotId} {e : Effect} {q : QueueEntry} {p : Plan}

/-! ### The entry that the grant chooses (R115) -/

theorem QueueEntry.isEligible_iff (q : QueueEntry) (now : Tick) :
    q.isEligible now = true ↔ q.eligible = true ∨ reached now q.earliest = true :=
  Bool.or_eq_true_iff

theorem QueueEntry.isEligible_eq_false_iff (q : QueueEntry) (now : Tick) :
    q.isEligible now = false ↔ q.eligible = false ∧ reached now q.earliest = false :=
  Bool.or_eq_false_iff

theorem State.eligibleAt_iff (l : Level) (k : SlotId) :
    s.eligibleAt l k = true ↔ ∃ f, s.queue[k] = some f ∧ f.level = l ∧ f.isEligible s.now = true := by
  unfold State.eligibleAt
  simp only [Option.any_eq_true, Bool.and_eq_true, beq_iff_eq]

/-- R115: slot `i` holds the eligible entry `q`, and no eligible entry of a higher level or, at its level, of a lower slot
number stands before it. -/
structure FirstEligible (s : State) (i : SlotId) (q : QueueEntry) : Prop where
  held : s.queue[i] = some q
  eligible : q.isEligible s.now = true
  first : ∀ k : SlotId, ∀ f, s.queue[k] = some f → f.isEligible s.now = true →
    (f.level = q.level → i ≤ k) ∧ (f.level = .urgent → q.level = .urgent)

theorem FirstEligible.lowestEligible (h : FirstEligible s i q) : s.lowestEligible q.level = some i := by
  unfold State.lowestEligible
  rw [find_finRange_eq_some]
  refine ⟨(State.eligibleAt_iff _ _).mpr ⟨q, h.held, rfl, h.eligible⟩, fun j hj => Bool.eq_false_iff.mpr fun hat => ?_⟩
  obtain ⟨f, hf, hlevel, hel⟩ := (State.eligibleAt_iff _ _).mp hat
  exact absurd ((h.first j f hf hel).1 hlevel) (not_le.mpr hj)

theorem FirstEligible.lowestEligible_urgent (h : FirstEligible s i q) (hl : q.level = .routine) :
    s.lowestEligible .urgent = none := by
  unfold State.lowestEligible
  rw [find_finRange_eq_none]
  refine fun k => Bool.eq_false_iff.mpr fun hat => ?_
  obtain ⟨f, hf, hlevel, hel⟩ := (State.eligibleAt_iff _ _).mp hat
  exact absurd (((h.first k f hf hel).2 hlevel).symm.trans hl) (by decide)

theorem FirstEligible.chosen (h : FirstEligible s i q) : s.chosen = some i := by
  have hown := h.lowestEligible
  unfold State.chosen
  cases hl : q.level with
  | urgent =>
    rw [hl] at hown
    rw [hown]
  | routine =>
    rw [hl] at hown
    rw [h.lowestEligible_urgent hl, hown]

/-- The entry of a slot comes first where the entries of the other slots wait, or are ROUTINE while it is URGENT. -/
theorem firstEligible_of_others (hi : t.queue[i] = some q) (hq : q.isEligible t.now = true)
    (ho : ∀ k : SlotId, k ≠ i → ∀ f, t.queue[k] = some f →
      (q.level = .urgent ∧ f.level = .routine) ∨ f.isEligible t.now = false) : FirstEligible t i q := by
  refine ⟨hi, hq, fun k f hf hel => ?_⟩
  by_cases hk : k = i
  · subst hk
    obtain rfl : q = f := Option.some.inj (hi.symm.trans hf)
    exact ⟨fun _ => le_refl k, id⟩
  · rcases ho k hk f hf with ⟨hu, hr⟩ | hwait
    · exact ⟨fun hlevel => absurd (hlevel.trans hu) (by rw [hr]; decide), fun _ => hu⟩
    · exact absurd hel (by rw [hwait]; decide)

/-- The entry that slot `i` has been given comes first where the other slots' entries wait. -/
theorem OthersWait.firstEligible (ho : OthersWait s i) (he : e.queue = s.queue.set i (some q))
    (hq : q.isEligible s.now = true) : FirstEligible (s.did i e) i q := by
  have hget : ∀ k : SlotId, (s.did i e).queue[k] = if k = i then some q else s.queue[k] := fun k => by
    rw [show (s.did i e).queue = s.queue.set i (some q) from he]
    exact getElem_set_fin _ _ _ _
  refine firstEligible_of_others ((hget i).trans (if_pos rfl)) hq fun k hk f hf => .inr ?_
  exact (f.isEligible_eq_false_iff _).mpr (ho k hk f (((hget k).trans (if_neg hk)).symm.trans hf))

/-! ### The grant and the set-aside (R115, R116, R118) -/

theorem FirstEligible.grantIfIdle (h : FirstEligible s i q) (hp : s.plan = none) : s.grantIfIdle = s.grant i := by
  unfold State.grantIfIdle
  rw [hp, h.chosen]
  rfl

/-- R115: an idle sequencer grants the entry. -/
theorem FirstEligible.arbitrate_of_idle (h : FirstEligible s i q) (hp : s.plan = none) : s.arbitrate = s.grant i := by
  unfold State.arbitrate State.setAside
  rw [hp]
  exact h.grantIfIdle hp

/-- R116: a ROUTINE entry sets no plan aside. -/
theorem FirstEligible.arbitrate_of_routine (h : FirstEligible s i q) (hl : q.level = .routine) (hp : s.plan = some p) :
    s.arbitrate = s := by
  unfold State.arbitrate State.setAside State.mustSetAside
  rw [hp]
  dsimp only
  rw [h.lowestEligible_urgent hl, Option.isSome_none, Bool.and_false, if_neg Bool.false_ne_true]
  exact s.grantIfIdle_of_plan p hp

/-- R115, R118: what an event has done once the entry `q` of slot `i` has been granted, the queue otherwise `queue`. -/
def Effect.granted (e : Effect) (s : State) (i : SlotId) (q : QueueEntry) (queue : Vector (Option QueueEntry) 8) :
    Effect :=
  { e with
    slot := e.slot.asserted, attn := e.attn ||| attentionMask i .stateChange, queue := queue.set i .none,
    plan := some (planGranted s.now i q.level q.attempt
      (min (e.slot.inForce.holdMs.toNat * 2 ^ (q.attempt - 1)) 1000)) }

/-- R115: an idle sequencer grants the entry that slot `i` has been given. -/
theorem State.did_arbitrate_grants (he : e.queue = s.queue.set i (some q)) (hp : e.plan = none) (ho : OthersWait s i)
    (hq : q.isEligible s.now = true) : (s.did i e).arbitrate = s.did i (e.granted s i q s.queue) := by
  have hfirst : FirstEligible (s.did i e) i q := ho.firstEligible he hq
  rw [hfirst.arbitrate_of_idle hp, State.did_grant hfirst.held, he, Vector.set_set]
  rfl

/-- R116: an URGENT entry that slot `i` has been given sets a ROUTINE plan in RESET_HOLD or TRAINING aside, and is granted. -/
theorem State.did_arbitrate_replaces (he : e.queue = s.queue.set i (some q)) (hp : e.plan = some p) (ho : OthersWait s i)
    (hq : q.isEligible s.now = true) (hu : q.level = .urgent) (hl : p.level = .routine)
    (hph : p.phase = .resetHold ∨ p.phase = .training) (hstop : p.stop = false) (hi : p.slot ≠ i) :
    (s.did i e).arbitrate = (s.onSlot p.slot Slot.planSetAside).did i
      (e.granted s i q (s.queue.set p.slot (some (backEntry s.now p)))) := by
  have hfirst : FirstEligible (s.did i e) i q := ho.firstEligible he hq
  have hurgent : (s.did i e).lowestEligible .urgent = some i := by rw [← hu, hfirst.lowestEligible]
  have hget : ∀ k : SlotId, (e.queue.set p.slot (some (backEntry s.now p)))[k] =
      if k = p.slot then some (backEntry s.now p) else e.queue[k] := fun k => getElem_set_fin _ _ _ _
  have hnext : FirstEligible ((s.onSlot p.slot Slot.planSetAside).did i { e with
      plan := none, queue := e.queue.set p.slot (some (backEntry s.now p)) }) i q := by
    refine firstEligible_of_others ((hget i).trans ((if_neg hi.symm).trans hfirst.held)) hq fun k hk f hf => ?_
    have hf := (hget k).symm.trans hf
    split at hf
    · cases hf
      exact .inl ⟨hu, rfl⟩
    · have hset : e.queue[k] = s.queue[k] := by
        rw [he]
        exact (getElem_set_fin _ _ _ _).trans (if_neg hk)
      exact .inr ((f.isEligible_eq_false_iff _).mpr (ho k hk f (hset.symm.trans hf)))
  have hqueue : (e.queue.set p.slot (some (backEntry s.now p))).set i none =
      (s.queue.set p.slot (some (backEntry s.now p))).set i none := by
    rw [he, Vector.set_comm _ _ (fun hval => hi (Fin.ext hval.symm)), Vector.set_set]
  unfold State.arbitrate
  rw [State.did_setAside hp hl hph hstop hi (by rw [hurgent]; simp), hnext.grantIfIdle rfl, State.did_grant hnext.held,
    hqueue]
  rfl

/-- The entry that slot `i` has been given waits while a plan runs that it cannot set aside. -/
theorem State.did_arbitrate_keeps (he : e.queue = s.queue.set i (some q)) (hp : e.plan = s.plan)
    (hq : q.isEligible s.now = true)
    (h : PlanRunsOn s ∨ (q.level = .routine ∧ OthersWait s i ∧ s.plan ≠ none)) : (s.did i e).arbitrate = s.did i e := by
  rcases h with ⟨p, hplan, hrun⟩ | ⟨hl, ho, hne⟩
  · exact State.arbitrate_of_planRunsOn _ ⟨p, hp.trans hplan, hrun⟩
  · obtain ⟨p, hplan⟩ := Option.ne_none_iff_exists'.mp hne
    exact (ho.firstEligible he hq).arbitrate_of_routine hl (hp.trans hplan)

/-- Settles O50: the grant goes to the first eligible entry, and there is none while a plan runs or no entry is eligible. -/
theorem planGrant : Obligations.PlanGrant := by
  intro i s sl eligible
  refine ⟨fun hp => ?runs, fun _ hn => ?none, fun q held hp hel hfirst => ?granted⟩
  case runs =>
    obtain ⟨p, hp⟩ := Option.ne_none_iff_exists'.mp hp
    exact event_next_self s (f := State.grantIfIdle) (s.grantIfIdle_of_plan p hp)
  case none => exact event_next_self s (f := State.grantIfIdle) (s.grantIfIdle_of_noneEligible hn)
  case granted =>
    have h : FirstEligible s i q := ⟨held, (q.isEligible_iff _).mpr hel, fun k f hf hfel =>
      hfirst k f hf ((f.isEligible_iff _).mp hfel)⟩
    have hdone : s.grantIfIdle = s.did i ((Effect.none s i).granted s i q s.queue) := by
      rw [h.grantIfIdle hp]
      exact (congrArg (State.grant · i) (s.did_none i)).symm.trans (State.did_grant (e := Effect.none s i) held)
    exact event_did hdone

/-! ### The earliest start tick (R115) -/

/-- R115: what the earliest start tick of the entry `q` of slot `i` has done once the entry is eligible. -/
def startTaken (s : State) (i : SlotId) (q : QueueEntry) : Effect :=
  { Effect.none s i with queue := s.queue.set i (some { q with eligible := true }) }

theorem State.startReached_of_reached (held : s.queue[i] = some q) (hel : q.eligible = false)
    (hr : reached s.now q.earliest = true) : s.startReached i = (s.did i (startTaken s i q)).arbitrate := by
  have hset : s.setQueue i (some { q with eligible := true }) = s.did i (startTaken s i q) :=
    congrArg (State.setQueue · i _) (s.did_none i).symm
  unfold State.startReached
  rw [held]
  dsimp only
  rw [hel, hr, ← hset]
  rfl

theorem State.startReached_of_not (held : s.queue[i] = some q)
    (h : q.eligible = true ∨ reached s.now q.earliest = false) : s.startReached i = s := by
  unfold State.startReached
  rw [held]
  rcases h with h | h <;> simp [h]

/-- Settles O51: the entry that becomes eligible waits, is granted, or sets the plan aside and is granted. -/
theorem earliestStartReached : Obligations.EarliestStartReached := by
  intro i s sl run
  have kept : s.startReached i = s → run = .next s := event_next_self s (f := fun s => s.startReached i)
  refine ⟨fun hnone => kept ?none, fun q held => ⟨fun h => kept (State.startReached_of_not held h),
    fun hel hr h => ?waits, fun hel hr hp ho => ?granted, fun p hp hel hr hu ho hl hph hstop hi => ?setsAside⟩⟩
  case none =>
    unfold State.startReached
    rw [hnone]
  case waits =>
    have hdone := (State.startReached_of_reached held hel hr).trans (State.did_arbitrate_keeps rfl rfl rfl h)
    refine (event_did (f := fun s => s.startReached i) hdone).trans ?_
    dsimp only [startTaken, Effect.none]
    rw [slotAfter_of_kept]
    simp
  case granted =>
    exact event_did (f := fun s => s.startReached i)
      ((State.startReached_of_reached held hel hr).trans (State.did_arbitrate_grants rfl hp ho rfl))
  case setsAside =>
    refine (event_next (f := fun s => s.startReached i) ((State.startReached_of_reached held hel hr).trans
      (State.did_arbitrate_replaces rfl hp ho rfl hu hl hph hstop hi))).trans ?_
    dsimp only [startTaken, Effect.granted]
    rw [hu]
    rfl

end

end Sys2Proof.Machine

/-! PROOF. The limits of a plan and its delay tick (R119, R121 to R126, R128 to R130), the cancel of a queued recovery (R131)
and the RECOVER order taken at rest and in RECOVERING (R113 to R116, R118, R153). -/

namespace Sys2Proof.Machine

open Sys2Proof

section
variable {s : State} {i : SlotId} {e : Effect} {q : QueueEntry} {p : Plan}

/-! ### The limits of a plan and its delay tick (R119, R121, R125) -/

/-- An event that is the expiry of a timer of a plan with no stop request does what the expiry does to the plan's slot. -/
theorem event_onPlanTimer {timer : Plan → Option Tick} {act : Plan → State → State} (hp : s.plan = some p)
    (h : (timer p).any (reached s.now) = true) (hstop : p.stop = false) :
    event (fun s => s.onPlanTimer timer act) s =
      event (fun _ => act p (s.did p.slot (planEffect s p.slot s.slots[p.slot] (some p)))) s := by
  refine event_congr (f := fun s => s.onPlanTimer timer act) (g := fun _ => act p _) s ?_
  rw [State.did_planEffect_self hp, State.onPlanTimer_of_reached hp h, State.planEvent_of_not_stopped hstop]

/-- R128: an event in which a limit of the current plan is reached ends the attempt. -/
theorem attemptEnds_of_limit {timer : Plan → Option Tick} {reason : Reason} (hp : s.plan = some p)
    (hstop : p.stop = false) (hst : (s.slots[p.slot]).cu.st = .recovering) (hr : reason ≠ .identityMismatch)
    (h : (timer p).any (reached s.now) = true) :
    AttemptEnds s p s.slots[p.slot] 1 reason none
      (event (fun s => s.onPlanTimer timer fun p s => s.failAttempt p reason none) s) := by
  rw [event_onPlanTimer hp h hstop]
  exact attemptEnds_of_failAttempt hst hr

/-- Settles O47: each limit fails the attempt with its own reason. -/
theorem attemptFails : Obligations.AttemptFails := by
  intro s p hp sl fails hstop hst
  exact ⟨attemptEnds_of_limit (timer := (·.trainLimit)) hp hstop hst (by decide),
    attemptEnds_of_limit (timer := (·.settleLimit)) hp hstop hst (by decide),
    attemptEnds_of_limit (timer := (·.retryLimit)) hp hstop hst (by decide)⟩

/-- Settles O49: the delay tick that is reached moves the cursor on from the record that is done. -/
theorem delayTickExpiry : Obligations.DelayTickExpiry := by
  intro k m s p hp run
  refine ⟨fun h => ?kept, fun h hstop hph => ?moves⟩
  case kept =>
    exact event_next_self s (f := fun s => s.onPlanTimer (·.delayTick) fun p s => s.delayEnds p)
      (State.onPlanTimer_of_not_reached hp h)
  case moves =>
    have hrun : run = event (fun _ => (s.did p.slot (planEffect s p.slot s.slots[p.slot] (some p))).restoreFrom
        { p with delayTick := none } (p.cursor + 1)) s :=
      event_onPlanTimer (timer := (·.delayTick)) hp h hstop
    rw [hrun]
    exact movesOn_of_restoreFrom (q := { p with delayTick := none }) hph

/-! ### The cancel of a queued recovery (R131, R158) -/

/-- R158: what the taking of a latched cancel has done when it acts on the order in progress. -/
def cancelCleared (s : State) (i : SlotId) : Effect :=
  { Effect.none s i with slot := { s.slots[i] with ou := { (s.slots[i]).ou with cancel := false } } }

theorem State.takeCancel_of_recover {o : OrderInProgress} (ho : (s.slots[i]).ou.order = some o) (hcode : o.code = 4)
    (hcancel : (s.slots[i]).ou.cancel = true) : s.takeCancel i = (s.did i (cancelCleared s i)).cancelRecover i := by
  have his : ∀ c, (s.slots[i]).ou.orderIs c = (orderOf 4 == some c) := fun c => by
    unfold OrderUnit.orderIs
    rw [ho, Option.any_some, hcode]
  unfold State.takeCancel
  dsimp only
  rw [if_pos hcancel, his, his, if_neg (by decide), if_pos (by decide)]
  exact congrArg (State.cancelRecover · i) (s.onSlot_eq_did i _)

/-- R131: the slot leaves the Recovery Queue, and its order ends CANCELLED. -/
theorem State.did_cancelRecover_of_queued {o : OrderInProgress} (ho : e.slot.ou.order = some o) (hq : e.queue[i] = some q)
    (hst : e.slot.cu.st = .recovering) : (s.did i e).cancelRecover i = s.did i { e with
      slot := { e.slot with
        cu := { e.slot.cu with st := if e.slot.port.line = .asserted then .offline else .fenced }, attempt := 0,
        ou := e.slot.ou.ended s.now o .cancelled .none (BitVec.ofNat 32 e.slot.attempt) 0 0 },
      attn := e.attn ||| attentionMask i .stateChange ||| attentionMask i .orderDone, queue := e.queue.set i none } := by
  have hqueued : (s.did i e).queue[i] = some q := hq
  unfold State.cancelRecover State.cancelQueued
  dsimp only
  rw [State.did_slot, hst, hqueued]
  dsimp only
  rw [if_pos (by rfl), State.did_setQueue, State.did_setSlotState, State.did_setAttempt, State.did_raise,
    State.did_endOrder (by exact ho)]
  rfl

/-- Settles O20: the cancel takes the slot out of the Recovery Queue in the event in which it is taken. -/
theorem cancelOfAQueuedRecovery : Obligations.CancelOfAQueuedRecovery := by
  intro i s sl o ho q hq hcancel hcode hst
  rw [BitVec.or_assoc, BitVec.or_comm (attentionMask i .orderDone), ← BitVec.or_assoc]
  exact event_did (f := fun s => s.takeCancel i) ((State.takeCancel_of_recover ho hcode hcancel).trans
    (State.did_cancelRecover_of_queued ho hq hst))

/-! ### RECOVER (R113, R114, R153) -/

/-- R153: a command that hands an order over while the owner is SOFTWARE does what the judging of the order does. -/
theorem exec_orderCommand_judges (o : OrderCode) {number : BitVec 16} {priority : Byte}
    (howner : (s.slots[i]).ou.cell.owner = .software) : exec (orderCommand o i number priority) s =
      event (fun _ => (s.did i (orderBegun s i o number priority)).judgeOrder i o.code
        (orderLevel priority (s.slots[i]).inForce)) s := by
  rw [exec_orderCommand]
  refine event_congr (f := fun s => s.handOver i o.code number priority) (g := fun _ => State.judgeOrder _ i _ _) s ?_
  rw [handOver_of_software s i o.code number priority howner]
  simp only [orderBegun, State.did, Effect.none, List.append_nil, BitVec.add_zero]

theorem State.did_orderRecover_of_rest (hst : e.slot.cu.st = .offline ∨ e.slot.cu.st = .fenced) (level : Level) :
    (s.did i e).orderRecover i level = (s.did i e).joinQueue i level := by
  unfold State.orderRecover
  rw [State.did_slot]
  rcases hst with h | h <;> rw [h]

theorem State.did_orderRecover_of_recovering (hst : e.slot.cu.st = .recovering) (level : Level) :
    (s.did i e).orderRecover i level = (s.did i e).adopt i level := by
  unfold State.orderRecover
  rw [State.did_slot, hst]

/-- R113: a slot that joins the Recovery Queue raises STATE_CHANGE, whether or not it stood before. -/
theorem State.did_joinQueue_of_raised (level : Level) :
    (s.did i { e with attn := e.attn ||| attentionMask i .stateChange }).joinQueue i level =
      (s.did i e).joinQueue i level := by
  rw [State.did_joinQueue, State.did_joinQueue]
  unfold Effect.joining
  rw [or_of_raised_twice]

/-- R114: what an event has done once the level of the entry `q` of slot `i` has been raised. -/
def Effect.levelRaised (e : Effect) (i : SlotId) (q : QueueEntry) : Effect :=
  { e with queue := e.queue.set i (some { q with level := .urgent }) }

/-- R114: an URGENT adoption raises the level of the slot's Recovery Queue entry. -/
theorem State.did_adopt_of_queued (hq : e.queue[i] = some q) :
    (s.did i e).adopt i .urgent = (s.did i (e.levelRaised i q)).arbitrate := by
  have hqueued : (s.did i e).queue[i] = some q := hq
  unfold State.adopt
  dsimp only
  rw [hqueued]
  rfl

/-- R114: an URGENT adoption raises the level of the current plan. -/
theorem State.did_adopt_of_plan (hp : e.plan = some p) (hi : p.slot = i) (hq : e.queue[i] = none) :
    (s.did i e).adopt i .urgent = s.did i { e with plan := some { p with level := .urgent } } := by
  have hqueued : (s.did i e).queue[i] = none := hq
  have hplan : (s.did i e).plan = some p := hp
  unfold State.adopt
  dsimp only
  rw [hqueued, hplan]
  dsimp only
  rw [if_pos hi]
  rfl

/-- The raise of the level of an entry makes no entry eligible. -/
theorem NoneEligible.levelRaised (hn : NoneEligible s) (he : e.queue = s.queue) (hq : s.queue[i] = some q) :
    NoneEligible (s.did i (e.levelRaised i q)) := by
  intro k f hf
  have hget := (getElem_set_fin e.queue i k _).symm.trans hf
  rw [he] at hget
  split at hget
  · cases hget
    exact hn i q hq
  · exact hn k f hget

/-- R115, R116: the entry whose level has been raised waits behind a plan that runs on, or until it is eligible. -/
theorem State.did_arbitrate_levelRaised (he : e.queue = s.queue) (hp : e.plan = s.plan) (hq : s.queue[i] = some q)
    (h : PlanRunsOn s ∨ NoneEligible s) : (s.did i (e.levelRaised i q)).arbitrate = s.did i (e.levelRaised i q) := by
  rcases h with ⟨p, hplan, hrun⟩ | hn
  · exact State.arbitrate_of_planRunsOn _ ⟨p, hp.trans hplan, hrun⟩
  · exact State.arbitrate_of_noneEligible _ (hn.levelRaised he hq)

/-- Settles O16: at rest the order has the slot join the Recovery Queue; in RECOVERING it adopts the recovery, by its level
and by what the slot waits for. -/
theorem recoverFromRest : Obligations.RecoverFromRest := by
  intro i number priority s sl run level begun attn howner
  have hrun : run = event (fun _ => (s.did i (orderBegun s i .recover number priority)).orderRecover i level) s :=
    exec_orderCommand_judges .recover howner
  refine ⟨fun hst => ?rest, fun hst => ?recovering⟩
  case rest =>
    rw [hrun]
    refine joins_of_did (e := { orderBegun s i .recover number priority with attn := attn ||| attentionMask i .stateChange })
      (f := fun _ => _) ?_ rfl rfl rfl (or_of_raised_twice _ _)
    exact (State.did_orderRecover_of_rest hst level).trans (State.did_joinQueue_of_raised level).symm
  case recovering =>
    have hadopt : ∀ l, level = l → run = event (fun _ => (s.did i (orderBegun s i .recover number priority)).adopt i l) s :=
      fun l hl => by rw [hrun, State.did_orderRecover_of_recovering hst, hl]
    refine ⟨fun hl => (hadopt .routine hl).trans (event_did (f := fun _ => _) rfl), fun q hq hl => ?queued,
      fun p hp hl hq hi => ?plan⟩
    case queued =>
      have hraised : run = event (fun _ =>
          (s.did i ((orderBegun s i .recover number priority).levelRaised i q)).arbitrate) s := by
        rw [hadopt .urgent hl, State.did_adopt_of_queued (q := q) hq]
      refine ⟨fun h => ?waits, fun p hp hel ho hlevel hph hstop hi => ?setsAside⟩
      case waits =>
        rw [hraised, State.did_arbitrate_levelRaised rfl rfl hq h]
        exact event_did (f := fun _ => _) rfl
      case setsAside =>
        have heligible : QueueEntry.isEligible { q with level := .urgent } s.now = true :=
          (QueueEntry.isEligible_iff _ _).mpr (.inl hel)
        rw [hraised, State.did_arbitrate_replaces rfl (by exact hp) ho heligible rfl hlevel hph hstop hi]
        exact event_next (f := fun _ => _) rfl
    case plan =>
      exact (hadopt .urgent hl).trans (event_did (f := fun _ => _) (State.did_adopt_of_plan hp hi hq))

end

end Sys2Proof.Machine

/-! PROOF. The CAPTURE order in ACTIVE and its identity read (R24, R140). -/

namespace Sys2Proof.Machine

open Sys2Proof

section
variable {s : State} {i : SlotId} {e : Effect}

/-- R24: a controller request that finds no entry FREE waits for one. -/
theorem State.did_issueController_of_full (c : ControllerRequest) (h : ∀ k : Fin 32, (e.slot.trk.ort[k]).body ≠ none) :
    (s.did i e).issueController i c =
      s.did i { e with slot := { e.slot with trk := { e.slot.trk with waiting := some c } } } := by
  unfold State.issueController
  rw [State.did_slot, (lowestFree_eq_none _).mpr h]
  exact State.did_onTracker s i e _

/-- R140: in ACTIVE the capture engine begins and issues its identity read. -/
theorem State.did_orderCapture_of_active (hst : e.slot.cu.st = .active) :
    (s.did i e).orderCapture i =
      (s.did i { e with slot := { e.slot with capture := some Capture.start } }).issueController i
        { owner := .capture, offset := 0, write := none } := by
  unfold State.orderCapture State.startCapture
  rw [State.did_slot, if_pos hst, State.did_setCapture]

/-- Settles O14: the identity read with which the capture starts opens the lowest FREE entry, or waits where none is FREE. -/
theorem captureStarts : Obligations.CaptureStarts := by
  intro i number priority s sl begun howner hst
  have hbegun : begun = { sl.captureTaken number priority with capture := some Capture.start } := by
    unfold begun Slot.captureTaken
    rw [hst]
    rfl
  rw [hbegun]
  refine ⟨fun k hk => ?opens, fun hfull => ?waits⟩
  case opens => exact exec_orderCapture_of_free number priority howner hst hk
  case waits =>
    exact exec_orderCommand_of_judged (o := .capture) howner
      ((State.did_orderCapture_of_active hst).trans (State.did_issueController_of_full _ hfull))

end

end Sys2Proof.Machine

/-! PROOF. The Device Settings (R163), the three conditions after reset (R164), APPLY and the orders that end in the event of
their hand-over (R153, R155 to R157, R160, R161). -/

namespace Sys2Proof.Machine

open Sys2Proof

/-! ### Clamped values (R161, R163) -/

/-- A value brought within a range is the value that lies in it next to the given one. -/
theorem toNat_clampTo_eq {w : Nat} (lo hi : Nat) (v : BitVec w) (hw : hi < 2 ^ w) :
    (clampTo lo hi v).toNat = min (max v.toNat lo) hi := by
  rw [clampTo, BitVec.toNat_ofNat, Nat.mod_eq_of_lt (lt_of_le_of_lt (min_le_right _ _) hw)]

/-- A range that has no lower bound only cuts values off. -/
theorem toNat_clampTo_zero {w : Nat} (hi : Nat) (v : BitVec w) (hw : hi < 2 ^ w) :
    (clampTo 0 hi v).toNat = min v.toNat hi := by
  rw [toNat_clampTo_eq 0 hi v hw, Nat.max_zero]

/-- A range that reaches up to the largest value of the cell only lifts values. -/
theorem toNat_clampTo_top {w : Nat} (lo hi : Nat) (v : BitVec w) (hw : hi + 1 = 2 ^ w) (hlo : lo ≤ hi) :
    (clampTo lo hi v).toNat = max v.toNat lo := by
  rw [toNat_clampTo_eq lo hi v (by omega), min_eq_left (max_le (by have := v.isLt; omega) hlo)]

/-- Settles O6: both cells are clamped, written back and taken into force, and nothing else changes. -/
theorem applyDeviceClamps : Obligations.ApplyDeviceClamps := fun s =>
  ⟨s.applyDevice.device, event_next_of_kept (f := fun s => s.deviceControl 1) rfl rfl rfl,
    toNat_clampTo_eq 100 4194303 _ (by decide), toNat_clampTo_eq 1 1000 _ (by decide)⟩

/-! ### The conditions after reset (R164) -/

/-- Settles O60: after reset the settings are in their ranges, the tables are empty, and every slot is at rest. -/
theorem resetKeepsTo : Obligations.ResetKeepsTo :=
  ⟨settingsInv_reset, tableInv_reset, (State.powerOn_agreed (s := State.reset)).sequencerInv⟩

/-! ### An order that ends in the event of its hand-over (R153, R156) -/

section
variable {s : State} {i : SlotId} {e : Effect} {number : BitVec 16} {priority : Byte}

/-- R153: what the hand-over of an order of any code has done when the order is judged. -/
def orderTaken (s : State) (i : SlotId) (code : Byte) (number : BitVec 16) (priority : Byte) : Effect :=
  { Effect.none s i with
    slot := { s.slots[i] with
      ou := (s.slots[i]).ou.begun code number priority (orderLevel priority (s.slots[i]).inForce) (s.slots[i]).cu.st },
    attn := s.attn &&& ~~~ attentionMask i .orderDone }

/-- R153: the hand-over of an order while the owner is SOFTWARE does what the judging of the order does. -/
theorem event_handOver {code : Byte} (howner : (s.slots[i]).ou.cell.owner = .software)
    (hjudged : (s.did i (orderTaken s i code number priority)).judgeOrder i code
      (orderLevel priority (s.slots[i]).inForce) = s.did i e) :
    event (fun s => s.handOver i code number priority) s =
      .next { slotAfter s i e.slot e.attn e.filed e.sent with plan := e.plan, queue := e.queue, freeIndex := e.free } := by
  refine event_did ?_
  rw [handOver_of_software s i code number priority howner, ← hjudged]
  simp only [orderTaken, State.did, Effect.none, List.append_nil, BitVec.add_zero]

/-- R156: an order that ends as it is judged, in a slot of which the judging has made `x`. -/
theorem event_handOver_of_ended {code : Byte} {x : Slot} {outcome : OrderOutcome} {reason : Reason} {d1 d2 : Dword}
    (howner : (s.slots[i]).ou.cell.owner = .software)
    (hx : x.ou = (orderTaken s i code number priority).slot.ou)
    (hjudged : (s.did i (orderTaken s i code number priority)).judgeOrder i code
      (orderLevel priority (s.slots[i]).inForce) =
        (s.did i { orderTaken s i code number priority with slot := x }).endOrder i outcome reason d1 d2 0) :
    event (fun s => s.handOver i code number priority) s = .next (slotAfter s i
      { x with ou := (s.slots[i]).ou.judged s.now code number priority outcome reason d1 d2 0 }
      (s.attn ||| attentionMask i .orderDone) 0 []) := by
  have horder : x.ou.order = some
      { code := code, number := number, level := orderLevel priority (s.slots[i]).inForce, taken := (s.slots[i]).cu.st } := by
    rw [hx]
    rfl
  rw [event_handOver howner (hjudged.trans (State.did_endOrder horder outcome reason d1 d2 0)), ← or_of_cleared s.attn]
  dsimp only
  rw [hx]
  rfl

/-- R156: an order that ends as it is judged, with no further effect. -/
theorem event_handOver_of_end {code : Byte} {outcome : OrderOutcome} {reason : Reason} {d1 d2 : Dword}
    (howner : (s.slots[i]).ou.cell.owner = .software)
    (hjudged : (s.did i (orderTaken s i code number priority)).judgeOrder i code
      (orderLevel priority (s.slots[i]).inForce) =
        (s.did i (orderTaken s i code number priority)).endOrder i outcome reason d1 d2 0) :
    event (fun s => s.handOver i code number priority) s = .next (slotAfter s i
      { s.slots[i] with ou := (s.slots[i]).ou.judged s.now code number priority outcome reason d1 d2 0 }
      (s.attn ||| attentionMask i .orderDone) 0 []) :=
  event_handOver_of_ended (x := (orderTaken s i code number priority).slot) howner rfl hjudged

/-! ### Orders that are refused or find their end reached (R155) -/

theorem orderOf_of_unknown {code : Byte} (h : unknownOrderCode code = true) : orderOf code = none := by
  rw [Option.eq_none_iff_forall_ne_some]
  intro c hc
  rw [(orderOf_eq_some code c).mp hc] at h
  cases c <;> exact absurd h (by decide)

/-- R155: a code outside APPLY to REINSTATE. -/
theorem State.judgeOrder_of_unknown {code : Byte} (h : unknownOrderCode code = true) (s : State) (i : SlotId) (level : Level) :
    s.judgeOrder i code level = s.endOrder i .refusedCode .unknownCode (code.setWidth 32) 0 0 := by
  unfold State.judgeOrder
  rw [orderOf_of_unknown h]

/-- R155: an order in a slot state that refuses it. -/
theorem State.judgeOrder_of_refused {o : OrderCode} (h : refusedIn o (s.slots[i]).cu.st = true) (level : Level) :
    s.judgeOrder i o.code level = s.refuseState i .wrongState := by
  cases o with
  | apply => cases h
  | capture => exact (if_neg (bne_iff_ne.mp h) : s.orderCapture i = _)
  | fence =>
    show s.orderFence i = _
    unfold State.orderFence
    cases hst : (s.slots[i]).cu.st
    case empty | offline | recovering | retired => rfl
    all_goals exact absurd (hst ▸ h) (by decide)
  | recover =>
    show s.orderRecover i level = _
    unfold State.orderRecover
    cases hst : (s.slots[i]).cu.st
    case empty | retired => rfl
    all_goals exact absurd (hst ▸ h) (by decide)
  | lift => exact (if_neg (bne_iff_ne.mp h) : s.orderLift i = _)
  | retire =>
    show s.orderRetire i = _
    unfold State.orderRetire
    rw [beq_iff_eq.mp h]
  | reinstate => exact (if_neg (bne_iff_ne.mp h) : s.orderReinstate i = _)

theorem State.did_orderFence_of_fenced (hst : e.slot.cu.st = .fenced) :
    (s.did i e).orderFence i = (s.did i e).endOrder i .already (.cause e.slot.cu.cause) 0 0 0 := by
  unfold State.orderFence
  rw [State.did_slot, hst]

theorem State.did_orderRetire_of_retired (hst : e.slot.cu.st = .retired) :
    (s.did i e).orderRetire i = (s.did i e).endOrder i .already .none (stateDword .retired) 0 0 := by
  unfold State.orderRetire
  rw [State.did_slot, hst]

/-- Settles O11: the order ends in the event of its hand-over, with the details of what refused it or of the end it found
reached. -/
theorem ordersEndedAtOnce : Obligations.OrdersEndedAtOnce := by
  intro i number priority s howner sl ends st link
  refine ⟨fun code hcode => ?unknown, fun o ho => ?refused, fun hst => ?fenced, fun hst => ?retired⟩
  case unknown => exact event_handOver_of_end howner (State.judgeOrder_of_unknown hcode _ i _)
  case refused =>
    rw [exec_orderCommand]
    refine event_handOver_of_end howner ?_
    rw [State.judgeOrder_of_refused (by rw [State.did_slot]; exact ho)]
    unfold State.refuseState
    rw [State.did_slot]
    rfl
  case fenced => exact event_handOver_of_end (code := 3) howner (State.did_orderFence_of_fenced hst)
  case retired =>
    have hcode : st = stateDword .retired := congrArg stateDword hst
    rw [hcode]
    exact event_handOver_of_end (code := 6) howner (State.did_orderRetire_of_retired hst)

/-! ### APPLY (R160, R161) -/

/-- R160: the slot states in which routing is locked. -/
theorem SlotState.routingLocked_iff (st : SlotState) :
    st.routingLocked = true ↔ st = .active ∨ st = .fencing ∨ st = .recovering := by
  cases st <;> decide

/-- R160: settings route alike when their windows and their bus ranges are the same. -/
theorem sameRouting_iff (c d : SlotSettings) :
    sameRouting c d = true ↔ windowOf c = windowOf d ∧ busRangeOf c = busRangeOf d := by
  rw [sameRouting, Bool.and_eq_true, beq_iff_eq, beq_iff_eq]

/-- R160: the routing check of a locked slot is passed by cells that route as the settings in force do. -/
theorem routingCheck_eq_false {sl : Slot} (h : sl.cu.st = .active ∨ sl.cu.st = .fencing ∨ sl.cu.st = .recovering →
      windowOf sl.cells = windowOf sl.inForce ∧ busRangeOf sl.cells = busRangeOf sl.inForce) :
    (sl.cu.st.routingLocked && !sameRouting sl.cells sl.inForce) = false := by
  rw [← SlotState.routingLocked_iff, ← sameRouting_iff] at h
  rw [Bool.and_eq_false_imp]
  exact fun hlocked => by rw [h hlocked, Bool.not_true]

/-- The search for an overlap reads the settings in force of the other slots alone. -/
theorem State.did_windowOverlap (c : SlotSettings) : (s.did i e).windowOverlap i c = s.windowOverlap i c := by
  unfold State.windowOverlap
  congr 1
  funext k
  by_cases hk : k = i
  · rw [bne_eq_false_iff_eq.mpr hk, Bool.false_and, Bool.false_and]
  · rw [State.did_slot_of_ne s i e hk]

theorem State.did_busOverlap (c : SlotSettings) : (s.did i e).busOverlap i c = s.busOverlap i c := by
  unfold State.busOverlap
  congr 1
  funext k
  by_cases hk : k = i
  · rw [bne_eq_false_iff_eq.mpr hk, Bool.false_and, Bool.false_and]
  · rw [State.did_slot_of_ne s i e hk]

section
variable {w : Nat} {range : Option (BitVec w × BitVec w)} {other : SlotId → Option (BitVec w × BitVec w)}

/-- R160: the search for an overlap finds the lowest slot number. -/
theorem find_overlap_eq_some {k : SlotId} (hk : k ≠ i ∧ overlaps range (other k) = true)
    (hfirst : ∀ j, j < k → ¬ (j ≠ i ∧ overlaps range (other j) = true)) :
    (List.finRange 8).find? (fun k => k != i && overlaps range (other k)) = some k := by
  rw [find_finRange_eq_some, Bool.and_eq_true, bne_iff_ne]
  refine ⟨hk, fun j hj => ?_⟩
  rw [← Bool.not_eq_true, Bool.and_eq_true, bne_iff_ne]
  exact hfirst j hj

theorem find_overlap_eq_none (h : ∀ j, ¬ (j ≠ i ∧ overlaps range (other j) = true)) :
    (List.finRange 8).find? (fun k => k != i && overlaps range (other k)) = none := by
  rw [find_finRange_eq_none]
  intro j
  rw [← Bool.not_eq_true, Bool.and_eq_true, bne_iff_ne]
  exact h j

end

/-- R160: an APPLY that changes the routing of a locked slot. -/
theorem State.did_orderApply_of_locked (h : (e.slot.cu.st.routingLocked && !sameRouting e.slot.cells e.slot.inForce) = true) :
    (s.did i e).orderApply i =
      (s.did i e).endOrder i .refusedSettings .routingLocked (stateDword e.slot.cu.st) 0 0 := by
  unfold State.orderApply
  dsimp only
  rw [State.did_slot, if_pos h]

/-- R160: an APPLY whose window shares a block with that of slot `k`. -/
theorem State.did_orderApply_of_window {k : SlotId}
    (h : (e.slot.cu.st.routingLocked && !sameRouting e.slot.cells e.slot.inForce) = false)
    (hw : s.windowOverlap i e.slot.cells = some k) :
    (s.did i e).orderApply i = (s.did i e).endOrder i .refusedSettings .routingOverlap (countDword k.val) 0 0 := by
  unfold State.orderApply
  dsimp only
  rw [State.did_slot, h, if_neg Bool.false_ne_true, State.did_windowOverlap, hw]

/-- R160: an APPLY whose bus range shares a bus with that of slot `k`. -/
theorem State.did_orderApply_of_bus {k : SlotId}
    (h : (e.slot.cu.st.routingLocked && !sameRouting e.slot.cells e.slot.inForce) = false)
    (hw : s.windowOverlap i e.slot.cells = none) (hb : s.busOverlap i e.slot.cells = some k) :
    (s.did i e).orderApply i = (s.did i e).endOrder i .refusedSettings .routingOverlap (countDword k.val) 1 0 := by
  unfold State.orderApply
  dsimp only
  rw [State.did_slot, h, if_neg Bool.false_ne_true, State.did_windowOverlap, hw]
  dsimp only
  rw [State.did_busOverlap, hb]

/-- R161: an APPLY that passes the routing check. -/
theorem State.did_orderApply_of_passed
    (h : (e.slot.cu.st.routingLocked && !sameRouting e.slot.cells e.slot.inForce) = false)
    (hw : s.windowOverlap i e.slot.cells = none) (hb : s.busOverlap i e.slot.cells = none) :
    (s.did i e).orderApply i =
      (s.did i { e with slot := { e.slot with
        cells := e.slot.cells.clamped, inForce := e.slot.cells.clamped } }).endOrder i .done .none
        (countDword (clampedCount e.slot.cells e.slot.cells.clamped)) 0 0 := by
  unfold State.orderApply
  dsimp only
  rw [State.did_slot, h, if_neg Bool.false_ne_true, State.did_windowOverlap, hw]
  dsimp only
  rw [State.did_busOverlap, hb]
  dsimp only
  rw [State.takeSettings, State.did_onSlot]

/-- Settles O12: the clamped cells go back, into force and into the count of the result. -/
theorem applyTakesSettings : Obligations.ApplyTakesSettings := by
  intro i number priority s sl howner hlocked hoverlap
  have hw : s.windowOverlap i sl.cells = none :=
    find_overlap_eq_none fun j ⟨hj, ho⟩ => ne_true_of_eq_false (hoverlap j hj).1 ho
  have hb : s.busOverlap i sl.cells = none :=
    find_overlap_eq_none fun j ⟨hj, ho⟩ => ne_true_of_eq_false (hoverlap j hj).2 ho
  have hrun := event_handOver_of_ended (code := 1) (number := number) (priority := priority) howner
    (x := { (orderTaken s i 1 number priority).slot with cells := sl.cells.clamped, inForce := sl.cells.clamped }) rfl
    (State.did_orderApply_of_passed (routingCheck_eq_false hlocked) hw hb)
  exact ⟨sl.cells.clamped, hrun, rfl, rfl, rfl, rfl, rfl, toNat_clampTo_top 1 65535 _ rfl (by decide),
    toNat_clampTo_top 1 65535 _ rfl (by decide), toNat_clampTo_zero 3 _ (by decide), toNat_clampTo_zero 63 _ (by decide),
    toNat_clampTo_eq 1 15 _ (by decide), toNat_clampTo_eq 1 7 _ (by decide), toNat_clampTo_top 1 255 _ rfl (by decide),
    toNat_clampTo_eq 1 1000 _ (by decide), toNat_clampTo_eq 1 2000 _ (by decide), toNat_clampTo_zero 10000 _ (by decide),
    toNat_clampTo_eq 100 10000 _ (by decide), toNat_clampTo_zero 1 _ (by decide), toNat_clampTo_zero 1 _ (by decide),
    toNat_clampTo_zero 1 _ (by decide), toNat_clampTo_zero 1 _ (by decide), toNat_clampTo_zero 1 _ (by decide)⟩

/-- Settles O13: the lock is checked first, then the windows, then the buses, and the lowest slot number is named. -/
theorem applyRefused : Obligations.ApplyRefused := by
  intro i number priority s sl refused locked sameRoute window bus howner
  refine ⟨fun hlocked hroute => ?locked, fun hpass k hk hfirst => ?window, fun hpass hnone k hk hfirst => ?bus⟩
  case locked =>
    refine event_handOver_of_end (code := 1) howner (State.did_orderApply_of_locked ?_)
    rw [Bool.and_eq_true, Bool.not_eq_true', ← Bool.not_eq_true, SlotState.routingLocked_iff, sameRouting_iff]
    exact ⟨hlocked, hroute⟩
  case window =>
    exact event_handOver_of_end (code := 1) howner
      (State.did_orderApply_of_window (routingCheck_eq_false hpass) (find_overlap_eq_some hk hfirst))
  case bus =>
    exact event_handOver_of_end (code := 1) howner
      (State.did_orderApply_of_bus (routingCheck_eq_false hpass) (find_overlap_eq_none hnone)
        (find_overlap_eq_some hk hfirst))

end

end Sys2Proof.Machine

/-! PROOF. Writes to the Cancel Cell, to incident states and to the Order Cell (R153, R154, R158, R171), and the cancel taken
other than for a queued recovery (R74, R132, R146, R158). -/

namespace Sys2Proof.Machine

open Sys2Proof

section
variable {s : State} {i : SlotId} {e : Effect}

/-! ### Writes to cells (R153, R154, R158, R171) -/

/-- R153: a write that touches no byte of the Order Cell stores nothing. -/
theorem OrderCell.store_of_untouched {w : CellWrite} (h : touchesCell w = false) (c : OrderCell) : c.store w = c := by
  simp only [touchesCell, Bool.or_eq_false_iff, Option.isSome_eq_false_iff, Option.isNone_iff_eq_none] at h
  obtain ⟨⟨⟨⟨⟨-, hcode⟩, hlow⟩, hhigh⟩, hpriority⟩, -⟩ := h
  rw [OrderCell.store, hcode, hlow, hhigh, hpriority]
  simp only [Option.getD_none, number_of_bytes]

/-- R153: a write that hands nothing over is stored while the owner is SOFTWARE. -/
theorem writeOrderCell_of_software {w : CellWrite} (howner : (s.slots[i]).ou.cell.owner = .software)
    (hw : w.owner ≠ some 1) : s.writeOrderCell i w = s.onSlot i fun sl =>
      { sl with ou := { sl.ou with cell := (s.slots[i]).ou.cell.store w } } := by
  cases ht : touchesCell w with
  | true =>
    unfold State.writeOrderCell
    dsimp only
    rw [ht, if_pos rfl, howner]
    dsimp only
    rw [if_neg hw]
    rfl
  | false =>
    rw [writeOrderCell_of_untouched s i w ht, OrderCell.store_of_untouched ht]
    exact (State.onSlot_eq_self rfl).symm

/-- R154: a command that writes the Order Cell while the owner is CONTROLLER only sets order_collision. -/
theorem exec_of_controller {c : Instr} (hc : writesOrderCell i c = true)
    (howner : (s.slots[i]).ou.cell.owner = .controller) : exec c s =
      .next { s with slots := s.slots.set i { s.slots[i] with ou := { (s.slots[i]).ou with collision := true } } } := by
  have handsOver : ∀ {j : SlotId} (code : Byte) (number : BitVec 16) (priority : Byte), (j == i) = true →
      event (fun s => s.handOver j code number priority) s =
        .next { s with slots := s.slots.set i { s.slots[i] with ou := { (s.slots[i]).ou with collision := true } } } := by
    intro j code number priority hj
    cases beq_iff_eq.mp hj
    exact event_next_of_onSlot s i (f := fun s => s.handOver i code number priority)
      (handOver_of_controller s i code number priority howner)
  cases c
  case orderApply | orderCapture | orderFence | orderRecover | orderLift | orderRetire | orderReinstate | orderUnknownCode =>
    exact handsOver _ _ _ hc
  case orderCellWrite j w =>
    obtain ⟨hj, ht⟩ := (Bool.and_eq_true_iff).mp hc
    cases beq_iff_eq.mp hj
    exact event_next_of_onSlot s i (f := fun s => s.writeOrderCell i w) (writeOrderCell_of_controller s i w ht howner)
  all_goals exact absurd hc Bool.false_ne_true

/-- Settles O9: each cell is written by its own rule, and the Order Cell by its owner. -/
theorem cellWrites : Obligations.CellWrites := by
  intro i s
  refine ⟨fun v => ?cancel, fun k v => ?incident, fun w howner hw => ?stored, fun c hc howner => exec_of_controller hc howner⟩
  case cancel =>
    refine event_next_of_kept (f := fun s => s.writeCancel i v) rfl ?_ ?_ <;> split <;> rfl
  case incident => exact event_next_of_onSlot s i (f := fun s => s.writeIncidentState i k v) rfl
  case stored => exact event_next_of_onSlot s i (f := fun s => s.writeOrderCell i w) (writeOrderCell_of_software howner hw)

/-! ### A cancel for no order, or for one that takes none (R158) -/

theorem OrderUnit.orderIs_of_some {u : OrderUnit} {o : OrderInProgress} (ho : u.order = some o) (c : OrderCode) :
    u.orderIs c = decide (o.code = c.code) := by
  rw [OrderUnit.orderIs, ho, Option.any_some, Bool.eq_iff_iff, beq_iff_eq, orderOf_eq_some, decide_eq_true_iff]

/-- R158: without a latched cancel there is nothing to take. -/
theorem State.takeCancel_of_none (h : (s.slots[i]).ou.cancel = false) : s.takeCancel i = s := by
  unfold State.takeCancel
  dsimp only
  rw [h, if_neg Bool.false_ne_true]

/-- R158: a cancel for no order, or for one that is neither CAPTURE nor RECOVER, is only cleared. -/
theorem State.takeCancel_of_other (hcancel : (s.slots[i]).ou.cancel = true)
    (ho : ∀ o, (s.slots[i]).ou.order = some o → o.code ≠ 2 ∧ o.code ≠ 4) :
    s.takeCancel i = s.did i (cancelCleared s i) := by
  have hnot : (s.slots[i]).ou.orderIs .capture = false ∧ (s.slots[i]).ou.orderIs .recover = false := by
    cases h : (s.slots[i]).ou.order with
    | none => simp only [OrderUnit.orderIs, h, Option.any_none, and_self]
    | some o =>
      rw [OrderUnit.orderIs_of_some h, OrderUnit.orderIs_of_some h]
      exact ⟨decide_eq_false (ho o h).1, decide_eq_false (ho o h).2⟩
  unfold State.takeCancel
  dsimp only
  rw [if_pos hcancel, hnot.1, if_neg Bool.false_ne_true, hnot.2, if_neg Bool.false_ne_true]
  exact s.onSlot_eq_did i _

/-- R158: a latched cancel acts on a CAPTURE order in progress. -/
theorem State.takeCancel_of_capture {o : OrderInProgress} (ho : (s.slots[i]).ou.order = some o) (hcode : o.code = 2)
    (hcancel : (s.slots[i]).ou.cancel = true) : s.takeCancel i = (s.did i (cancelCleared s i)).cancelCapture i := by
  unfold State.takeCancel
  dsimp only
  rw [if_pos hcancel, OrderUnit.orderIs_of_some ho, if_pos (decide_eq_true (by exact hcode))]
  exact congrArg (State.cancelCapture · i) (s.onSlot_eq_did i _)

/-! ### A cancel for a RECOVER order (R74, R132) -/

/-- R74: a RECOVER order on its way through a fence ends, and the follow-up with it. -/
theorem State.did_cancelRecover_of_fence {o : OrderInProgress} (ho : e.slot.ou.order = some o)
    (hst : e.slot.cu.st = .active ∨ e.slot.cu.st = .fencing) : (s.did i e).cancelRecover i = s.did i { e with
      slot := { e.slot with
        cu := { e.slot.cu with followUp := .none },
        ou := e.slot.ou.ended s.now o .cancelled .none (BitVec.ofNat 32 e.slot.attempt) 0 0 },
      attn := e.attn ||| attentionMask i .orderDone } := by
  have hend : ((s.did i e).setFollowUp i .none).endOrder i .cancelled .none (countDword e.slot.attempt) 0 0 = _ :=
    (congrArg (State.endOrder · i _ _ _ _ _) (State.did_setFollowUp _)).trans (State.did_endOrder (by exact ho) _ _ _ _ _)
  refine Eq.trans ?_ hend
  unfold State.cancelRecover
  dsimp only
  rw [State.did_slot]
  rcases hst with h | h <;> rw [h]

/-- R132: the stop request of the plan that runs is set. -/
theorem State.did_cancelRecover_of_plan {p : Plan} (hst : e.slot.cu.st = .recovering) (hq : e.queue[i] = none)
    (hp : e.plan = some p) (hi : p.slot = i) :
    (s.did i e).cancelRecover i = s.did i { e with plan := some { p with stop := true } } := by
  have hqueued : (s.did i e).queue[i] = none := hq
  have hplan : (s.did i e).plan = some p := hp
  unfold State.cancelRecover
  dsimp only
  rw [State.did_slot, hst, hqueued, hplan]
  dsimp only
  rw [if_neg (by decide), if_pos hi]
  rfl

/-! ### A cancel for a CAPTURE order (R146) -/

/-- An owner has a request OPEN exactly when an entry of its origin is OPEN. -/
theorem Tracker.ownedEntry_isSome (t : Tracker) (o : RequestOwner) :
    (t.ownedEntry o).isSome = true ↔ ∃ (k : Fin 32) (b : OrtBody), (t.ort[k]).body = some b ∧ b.origin = .controller o := by
  have howned : ∀ k : Fin 32, (t.ort[k]).ownedBy o = true ↔ ∃ b, (t.ort[k]).body = some b ∧ b.origin = .controller o := by
    intro k
    rw [OrtEntry.ownedBy, Option.any_eq_true]
    simp only [beq_iff_eq]
  unfold Tracker.ownedEntry
  rw [List.find?_isSome]
  simp only [howned, List.mem_finRange, true_and]

/-- R146: a capture whose read is OPEN stops when the read ends. -/
theorem State.did_cancelCapture_of_open {c : Capture} (hc : e.slot.capture = some c)
    (hopen : (e.slot.trk.ownedEntry .capture).isSome = true) : (s.did i e).cancelCapture i =
      s.did i { e with slot := { e.slot with capture := some { c with stop := true } } } := by
  unfold State.cancelCapture
  rw [State.did_slot, hc]
  dsimp only
  rw [if_pos hopen, State.did_setCapture]

/-- R25: an owner whose request waits for an entry withdraws it. -/
theorem State.did_endOwner_of_waiting {o : RequestOwner} {w : ControllerRequest} (hw : e.slot.trk.waiting = some w)
    (hwo : w.owner = o) (hnone : e.slot.trk.ownedEntry o = none) : (s.did i e).endOwner i o =
      s.did i { e with slot := { e.slot with trk := { e.slot.trk with waiting := none } } } := by
  unfold State.endOwner
  dsimp only
  rw [State.did_slot, hw, Option.any_some, hwo, beq_self_eq_true, if_pos rfl, hnone]
  exact State.did_onTracker s i e _

/-- The order in progress, where it has the code that is asked for. -/
theorem Slot.orderOfCode_of_some {sl : Slot} {o : OrderInProgress} {code : Byte} (ho : sl.ou.order = some o)
    (hcode : o.code = code) : sl.orderOfCode code = some o := by
  rw [Slot.orderOfCode, ho, Option.filter_some, if_pos (beq_iff_eq.mpr hcode)]

/-- R156: the end of an order that has the code that is asked for. -/
theorem Slot.ouEnding_of_some {sl : Slot} {o : OrderInProgress} {code : Byte} (ho : sl.ou.order = some o)
    (hcode : o.code = code) (now : Tick) (outcome : OrderOutcome) (reason : Reason) (d1 d2 d3 : Dword) :
    sl.ouEnding now code outcome reason d1 d2 d3 = sl.ou.ended now o outcome reason d1 d2 d3 := by
  rw [Slot.ouEnding, Slot.orderOfCode_of_some ho hcode]

theorem doneMask_of_some {sl : Slot} {o : OrderInProgress} {code : Byte} (ho : sl.ou.order = some o)
    (hcode : o.code = code) (i : SlotId) : doneMask i sl code = attentionMask i .orderDone := by
  rw [doneMask, Slot.orderOfCode_of_some ho hcode, Option.isSome_some, if_pos rfl]

/-- R146: a capture whose request waits for an entry ends CANCELLED at once. -/
theorem State.did_cancelCapture_of_waiting {o : OrderInProgress} {c : Capture} {w : ControllerRequest}
    (ho : e.slot.ou.order = some o) (hcode : o.code = 2) (hc : e.slot.capture = some c)
    (hnone : e.slot.trk.ownedEntry .capture = none) (hw : e.slot.trk.waiting = some w) (hwo : w.owner = .capture) :
    (s.did i e).cancelCapture i = s.did i { e with
      slot := { e.slot with
        trk := { e.slot.trk with waiting := none }, capture := none,
        ou := e.slot.ou.ended s.now o .cancelled .none (BitVec.ofNat 32 c.recordsRead) (BitVec.ofNat 32 c.recordsFailed)
          (BitVec.ofNat 32 c.firstFailed) },
      attn := e.attn ||| attentionMask i .orderDone } := by
  unfold State.cancelCapture
  rw [State.did_slot, hc]
  dsimp only
  rw [hnone, if_neg (by decide), State.did_endOwner_of_waiting hw hwo hnone]
  unfold State.endCapture
  rw [State.did_setCapture, State.did_endOrderOf, Slot.ouEnding_of_some (code := OrderCode.capture.code) (by exact ho) hcode,
    doneMask_of_some (code := OrderCode.capture.code) (by exact ho) hcode]
  rfl

/-- Settles O21: the cancel is cleared, and acts by the order in progress and by how far it has come. -/
theorem cancelOtherwise : Obligations.CancelOtherwise := by
  intro i s sl cleared
  refine ⟨fun hcancel => ?none, fun hcancel ho => ?other, fun o ho hcancel hcode hst => ?fence,
    fun o ho p hp hcancel hcode hst hq hi => ?plan, fun o ho c hc k b hb hcancel hcode horigin => ?captureOpen,
    fun o ho c hc w hw hcancel hcode hwo hno => ?captureWaits⟩
  case none => exact event_next_self s (f := fun s => s.takeCancel i) (State.takeCancel_of_none hcancel)
  case other =>
    exact event_next_of_onSlot s i (f := fun s => s.takeCancel i)
      ((State.takeCancel_of_other hcancel ho).trans (s.onSlot_eq_did i fun sl => { sl with ou := cleared }).symm)
  case fence =>
    exact event_did (f := fun s => s.takeCancel i) ((State.takeCancel_of_recover ho hcode hcancel).trans
      (State.did_cancelRecover_of_fence ho hst))
  case plan =>
    refine event_next_of_kept (f := fun s => s.takeCancel i) ((State.takeCancel_of_recover ho hcode hcancel).trans
      ((State.did_cancelRecover_of_plan hst hq hp hi).trans ?_)) rfl rfl
    simp [State.did, cancelCleared, Effect.none, cleared, sl]
  case captureOpen =>
    have hopen : (sl.trk.ownedEntry .capture).isSome = true := (sl.trk.ownedEntry_isSome _).mpr ⟨k, b, hb, horigin⟩
    exact event_next_of_onSlot s i (f := fun s => s.takeCancel i) ((State.takeCancel_of_capture ho hcode hcancel).trans
      ((State.did_cancelCapture_of_open hc hopen).trans
        (s.onSlot_eq_did i fun sl => { sl with ou := cleared, capture := some { c with stop := true } }).symm))
  case captureWaits =>
    have hnone : sl.trk.ownedEntry .capture = none := by
      rw [← Option.not_isSome_iff_eq_none, Tracker.ownedEntry_isSome]
      rintro ⟨k, b, hb, horigin⟩
      exact hno k b hb horigin
    exact event_did (f := fun s => s.takeCancel i) ((State.takeCancel_of_capture ho hcode hcancel).trans
      (State.did_cancelCapture_of_waiting ho hcode hc hnone hw hwo))

end

end Sys2Proof.Machine

/-! PROOF. The bytes of the layouts and the values they hold (section 9.3): bytes that are stored in a cell read back from it. -/

namespace Sys2Proof.Machine

open Sys2Proof

/-! ### Words and their bytes -/

/-- The number whose `n` bytes, the least significant first, are those of a list. -/
def leNat (n : Nat) (bs : List Byte) : Nat := (List.range n).foldr (fun k acc => (bs.getD k 0).toNat + 256 * acc) 0

theorem ofLeBytes_eq_ofNat (w n : Nat) (bs : List Byte) : ofLeBytes w n bs = BitVec.ofNat w (leNat n bs) := rfl

theorem leNat_succ (n : Nat) (bs : List Byte) : leNat (n + 1) bs = (bs.getD 0 0).toNat + 256 * leNat n bs.tail := by
  unfold leNat
  rw [List.range_succ_eq_map, List.foldr_cons, List.foldr_map]
  cases bs <;> rfl

theorem leNat_lt (n : Nat) (bs : List Byte) : leNat n bs < 256 ^ n := by
  induction n generalizing bs with
  | zero => exact Nat.one_pos
  | succ n ih =>
    have hrest := ih bs.tail
    have hfirst := (bs.getD 0 0).isLt
    rw [leNat_succ, Nat.pow_succ]
    omega

theorem leNat_byte {n k : Nat} (hk : k < n) (bs : List Byte) : leNat n bs / 256 ^ k % 256 = (bs.getD k 0).toNat := by
  induction n generalizing k bs with
  | zero => exact absurd hk (Nat.not_lt_zero k)
  | succ n ih =>
    have hfirst := (bs.getD 0 0).isLt
    rw [leNat_succ]
    cases k with
    | zero =>
      rw [Nat.pow_zero, Nat.div_one]
      omega
    | succ k =>
      have hdrop : ((bs.getD 0 0).toNat + 256 * leNat n bs.tail) / 256 = leNat n bs.tail := by omega
      rw [Nat.pow_succ', ← Nat.div_div_eq_div_mul, hdrop, ih (Nat.lt_of_succ_lt_succ hk)]
      cases bs <;> rfl

/-- A word made of bytes has those bytes. -/
theorem extractLsb'_ofLeBytes {w n k : Nat} (hw : w = 8 * n) (hk : k < n) (bs : List Byte) :
    (ofLeBytes w n bs).extractLsb' (8 * k) 8 = bs.getD k 0 := by
  apply BitVec.eq_of_toNat_eq
  have hlt : leNat n bs < 2 ^ w := by
    rw [hw, Nat.pow_mul]
    exact leNat_lt n bs
  rw [BitVec.extractLsb'_toNat, ofLeBytes_eq_ofNat, BitVec.toNat_ofNat, Nat.mod_eq_of_lt hlt, Nat.shiftRight_eq_div_pow,
    Nat.pow_mul, ← leNat_byte hk bs]

theorem leBytes_ofLeBytes_eq {w n : Nat} (hw : w = 8 * n) (bs : List Byte) :
    leBytes n (ofLeBytes w n bs) = (List.range n).map fun k => bs.getD k 0 :=
  List.map_congr_left fun _ hk => extractLsb'_ofLeBytes hw (List.mem_range.mp hk) bs

/-- Words of the same bytes are the same. -/
theorem eq_of_extractLsb'_eq {w n : Nat} (hw : w = 8 * n) {u v : BitVec w}
    (h : ∀ k, k < n → u.extractLsb' (8 * k) 8 = v.extractLsb' (8 * k) 8) : u = v := by
  apply BitVec.eq_of_getLsbD_eq
  intro j hj
  have hbyte : ∀ x : BitVec w, (x.extractLsb' (8 * (j / 8)) 8).getLsbD (j % 8) = x.getLsbD j := fun x => by
    rw [BitVec.getLsbD_extractLsb', Nat.div_add_mod, decide_eq_true (Nat.mod_lt j (by decide)), Bool.true_and]
  rw [← hbyte u, ← hbyte v, h (j / 8) (by omega)]

/-- A list that begins with the bytes of a word holds the word. -/
theorem ofLeBytes_of_take {w n : Nat} (hw : w = 8 * n) {v : BitVec w} {bs : List Byte} (h : bs.take n = leBytes n v) :
    ofLeBytes w n bs = v := by
  refine eq_of_extractLsb'_eq hw fun k hk => ?_
  have hget : (bs.take n)[k]? = (leBytes n v)[k]? := by rw [h]
  rw [List.getElem?_take_of_lt hk] at hget
  rw [extractLsb'_ofLeBytes hw hk, List.getD_eq_getElem?_getD, hget, leBytes]
  simp [hk]

/-! ### Bytes of a list -/

theorem eq_map_getD {n : Nat} {bs : List Byte} (h : bs.length = n) : bs = (List.range n).map fun k => bs.getD k 0 := by
  refine List.ext_getElem (by simp [h]) fun k hk _ => ?_
  simp [hk]

theorem getD_set {k : Nat} {bs : List Byte} (hk : k < bs.length) (v : Byte) (j : Nat) :
    (bs.set k v).getD j 0 = if j = k then v else bs.getD j 0 := by
  rw [List.getD_eq_getElem?_getD, List.getElem?_set, List.getD_eq_getElem?_getD]
  by_cases hj : j = k
  · simp [hj, hk]
  · rw [if_neg (Ne.symm hj), if_neg hj]

/-! ### The layouts (section 9.3) -/

theorem leBytes_two {w : Nat} (v : BitVec w) : leBytes 2 v = [v.extractLsb' 0 8, v.extractLsb' 8 8] := rfl

theorem leBytes_eight {w : Nat} (v : BitVec w) :
    leBytes 8 v = [v.extractLsb' 0 8, v.extractLsb' 8 8, v.extractLsb' 16 8, v.extractLsb' 24 8, v.extractLsb' 32 8,
      v.extractLsb' 40 8, v.extractLsb' 48 8, v.extractLsb' 56 8] := rfl

/-- Bytes that are taken as settings cells read back, but for the one that no layout names. -/
theorem SlotSettings.bytes_ofBytes {bs : List Byte} (h : bs.length = 0x2A) :
    (SlotSettings.ofBytes bs).bytes = bs.set 0x21 0 := by
  rw [eq_map_getD h]
  generalize (fun k => bs.getD k 0) = f
  unfold SlotSettings.bytes SlotSettings.ofBytes
  simp only [leBytes_ofLeBytes_eq]
  rfl

theorem SlotSettings.length_bytes (c : SlotSettings) : c.bytes.length = 0x2A := by
  unfold SlotSettings.bytes
  simp only [leBytes_two, leBytes_eight, List.cons_append, List.nil_append, List.length_cons, List.length_nil]

/-- The byte that no layout names reads 0. -/
theorem SlotSettings.bytes_set_unnamed (c : SlotSettings) : c.bytes.set 0x21 0 = c.bytes := by
  unfold SlotSettings.bytes
  simp only [leBytes_two, leBytes_eight, List.cons_append, List.nil_append, List.set_cons_succ, List.set_cons_zero]

/-- A byte that no layout names is not stored. -/
theorem SlotSettings.ofBytes_of_unnamed (c : SlotSettings) (v : Byte) : SlotSettings.ofBytes (c.bytes.set 0x21 v) = c := by
  unfold SlotSettings.bytes
  simp only [leBytes_two, leBytes_eight, List.cons_append, List.nil_append, List.set_cons_succ, List.set_cons_zero]
  exact (SlotSettings.mk.injEq ..).mpr ⟨ofLeBytes_of_take rfl rfl, ofLeBytes_of_take rfl rfl, rfl, rfl,
    ofLeBytes_of_take rfl rfl, ofLeBytes_of_take rfl rfl, rfl, rfl, rfl, rfl, rfl, rfl, rfl, rfl, rfl, rfl, rfl,
    ofLeBytes_of_take rfl rfl, ofLeBytes_of_take rfl rfl, ofLeBytes_of_take rfl rfl, ofLeBytes_of_take rfl rfl⟩

/-- What settings cells read as with one of their bytes stored. -/
theorem SlotSettings.bytes_of_stored {k : Nat} (hk : k ≠ 0x21) (c : SlotSettings) (v : Byte) :
    (SlotSettings.ofBytes (c.bytes.set k v)).bytes = c.bytes.set k v := by
  rw [SlotSettings.bytes_ofBytes ((List.length_set ..).trans c.length_bytes), List.set_comm _ _ hk, c.bytes_set_unnamed]

/-- Bytes in places of settings cells that hold none are not stored. -/
theorem SlotSettings.ofBytes_of_discarded {k : Nat} (hk : k = 0x21 ∨ 0x2A ≤ k) (c : SlotSettings) (v : Byte) :
    SlotSettings.ofBytes (c.bytes.set k v) = c := by
  rcases hk with rfl | hk
  · exact c.ofBytes_of_unnamed v
  · rw [List.set_eq_of_length_le (c.length_bytes.trans_le hk), ← c.bytes_set_unnamed, c.ofBytes_of_unnamed]

theorem DeviceSettings.length_bytes (c : DeviceSettings) : c.bytes.length = 6 := rfl

/-- Bytes that are taken as Device Settings cells read back. -/
theorem DeviceSettings.bytes_ofBytes {bs : List Byte} (h : bs.length = 6) : (DeviceSettings.ofBytes bs).bytes = bs := by
  rw [eq_map_getD h]
  generalize (fun k => bs.getD k 0) = f
  unfold DeviceSettings.bytes DeviceSettings.ofBytes
  simp only [leBytes_ofLeBytes_eq]
  rfl

theorem ContextHeader.length_bytes (h : ContextHeader) : h.bytes.length = 12 := rfl

theorem ContextHeader.bytes_set_unnamed (h : ContextHeader) : h.bytes.set 1 0 = h.bytes := rfl

/-- Bytes that are taken as a Context Header read back, but for the one that no layout names. -/
theorem ContextHeader.bytes_ofBytes {bs : List Byte} (h : bs.length = 12) :
    (ContextHeader.ofBytes bs).bytes = bs.set 1 0 := by
  rw [eq_map_getD h]
  generalize (fun k => bs.getD k 0) = f
  unfold ContextHeader.bytes ContextHeader.ofBytes
  simp only [leBytes_ofLeBytes_eq]
  rfl

theorem ContextHeader.ofBytes_of_unnamed (h : ContextHeader) (v : Byte) : ContextHeader.ofBytes (h.bytes.set 1 v) = h :=
  (ContextHeader.mk.injEq ..).mpr ⟨rfl, ofLeBytes_of_take rfl rfl, ofLeBytes_of_take rfl rfl, ofLeBytes_of_take rfl rfl⟩

/-- What a Context Header reads as with one of its bytes stored. -/
theorem ContextHeader.bytes_of_stored {k : Nat} (hk : k ≠ 1) (h : ContextHeader) (v : Byte) :
    (ContextHeader.ofBytes (h.bytes.set k v)).bytes = h.bytes.set k v := by
  rw [ContextHeader.bytes_ofBytes ((List.length_set ..).trans h.length_bytes), List.set_comm _ _ hk, h.bytes_set_unnamed]

/-- Bytes in places of a Context Header that hold none are not stored. -/
theorem ContextHeader.ofBytes_of_discarded {k : Nat} (hk : k = 1 ∨ 12 ≤ k) (h : ContextHeader) (v : Byte) :
    ContextHeader.ofBytes (h.bytes.set k v) = h := by
  rcases hk with rfl | hk
  · exact h.ofBytes_of_unnamed v
  · rw [List.set_eq_of_length_le (h.length_bytes.trans_le hk), ← h.bytes_set_unnamed, h.ofBytes_of_unnamed]

theorem RestoreRecord.length_bytes (r : RestoreRecord) : r.bytes.length = 16 := rfl

/-- The four bits of a byte mask, as a byte. -/
theorem setWidth_byteMask (v : Byte) : ((v.setWidth 4 : BitVec 4).setWidth 8 : Byte) = v &&& 0x0F := by
  revert v
  decide

theorem setWidth_byteMask_and (m : BitVec 4) : (m.setWidth 8 : Byte) &&& 0x0F = m.setWidth 8 := by
  revert m
  decide

/-- Bytes that are taken as a Restore Record read back, but for the upper bits of the byte mask. -/
theorem RestoreRecord.bytes_ofBytes {bs : List Byte} (h : bs.length = 16) :
    (RestoreRecord.ofBytes bs).bytes = bs.set 1 (bs.getD 1 0 &&& 0x0F) := by
  rw [eq_map_getD h]
  generalize (fun k => bs.getD k 0) = f
  unfold RestoreRecord.bytes RestoreRecord.ofBytes
  simp only [leBytes_ofLeBytes_eq, setWidth_byteMask]
  rfl

/-- What a Restore Record reads as with one of its bytes stored. -/
theorem RestoreRecord.bytes_of_stored {k : Nat} (hk : k < 16) (r : RestoreRecord) (v : Byte) :
    (RestoreRecord.ofBytes (r.bytes.set k v)).bytes = r.bytes.set k (if k = 1 then v &&& 0x0F else v) := by
  rw [RestoreRecord.bytes_ofBytes ((List.length_set ..).trans r.length_bytes), getD_set (r.length_bytes.symm ▸ hk)]
  by_cases h1 : k = 1
  · rw [if_pos h1.symm, if_pos h1, h1, List.set_set]
  · rw [if_neg (Ne.symm h1), if_neg h1, List.set_comm _ _ h1,
      show r.bytes.getD 1 0 = r.byteMask.setWidth 8 from rfl, setWidth_byteMask_and]
    rfl

end Sys2Proof.Machine

/-! PROOF. A byte written to the window (R150 to R152): where it is stored, what it reads back as, and what it leaves
unchanged. -/

namespace Sys2Proof.Machine

open Sys2Proof

/-! ### The cells of a slot page (section 9.1) -/

/-- The offsets in a slot page of the Slot Settings, the Context Header and the Restore Records. -/
def CellOffset (off : Nat) : Prop := (0x040 ≤ off ∧ off < 0x0C0) ∨ (0x240 ≤ off ∧ off < 0x660)

/-- The offsets among them that a layout names. -/
def NamedOffset (off : Nat) : Prop :=
  (0x040 ≤ off ∧ off < 0x06A ∧ off ≠ 0x061) ∨ off = 0x240 ∨ (0x242 ≤ off ∧ off < 0x24C) ∨ (0x260 ≤ off ∧ off < 0x660)

/-- The offsets in a slot page at which a software write is discarded. -/
def DiscardedOffset (off : Nat) : Prop :=
  (0x011 ≤ off ∧ off < 0x040) ∨ off = 0x061 ∨ (0x06A ≤ off ∧ off < 0x140) ∨
    (0x140 ≤ off ∧ off < 0x240 ∧ (off - 0x140) % 32 ≠ 0) ∨ off = 0x241 ∨ (0x24C ≤ off ∧ off < 0x260) ∨ 0x660 ≤ off

theorem NamedOffset.cellOffset {off : Nat} (h : NamedOffset off) : CellOffset off := by
  unfold NamedOffset at h
  unfold CellOffset
  omega

/-- What the Restore Records read as, by the offset from the first of them. -/
def recordByte (rs : Vector RestoreRecord 64) (off : Nat) : Byte :=
  ((rs[off / 16]?).elim [] RestoreRecord.bytes).getD (off % 16) 0

/-- What the cells of a slot page read as, by the offset from the start of the page. -/
def Slot.cellByte (sl : Slot) (off : Nat) : Byte :=
  if off < 0x0C0 then sl.cells.bytes.getD (off - 0x040) 0
  else if off < 0x260 then sl.ctx.header.bytes.getD (off - 0x240) 0
  else recordByte sl.ctx.records (off - 0x260)

/-- The Restore Records with one byte stored, by the offset from the first of them. -/
def storeRecordByte (rs : Vector RestoreRecord 64) (off : Nat) (v : Byte) : Vector RestoreRecord 64 :=
  if h : off < 0x400 then
    rs.set (off / 16) (RestoreRecord.ofBytes ((rs[off / 16]).bytes.set (off % 16) v))
  else rs

/-- A slot with one byte of the cells of its page stored. -/
def Slot.withByte (sl : Slot) (off : Nat) (v : Byte) : Slot :=
  if off < 0x0C0 then { sl with cells := SlotSettings.ofBytes (sl.cells.bytes.set (off - 0x040) v) }
  else if off < 0x260 then
    { sl with ctx := { sl.ctx with header := ContextHeader.ofBytes (sl.ctx.header.bytes.set (off - 0x240) v) } }
  else { sl with ctx := { sl.ctx with records := storeRecordByte sl.ctx.records (off - 0x260) v } }

/-- What a byte stored at an offset of a slot page reads back as. -/
def cellReadBack (off : Nat) (v : Byte) : Byte := if 0x260 ≤ off ∧ off % 16 = 1 then v &&& 0x0F else v

theorem recordByte_storeRecordByte {off : Nat} (h : off < 0x400) (rs : Vector RestoreRecord 64) (v : Byte) (off' : Nat) :
    recordByte (storeRecordByte rs off v) off' =
      if off' = off then (if off % 16 = 1 then v &&& 0x0F else v) else recordByte rs off' := by
  unfold recordByte storeRecordByte
  rw [dif_pos h, Vector.getElem?_set]
  by_cases hm : off / 16 = off' / 16
  · have hoff : off' % 16 = off % 16 ↔ off' = off := by omega
    have hsame : rs[off' / 16]? = some rs[off / 16] := by
      rw [← hm]
      exact Vector.getElem?_eq_getElem _
    have hk : off % 16 < (rs[off / 16]).bytes.length := Nat.mod_lt off (by decide)
    rw [if_pos hm, hsame, Option.elim_some, Option.elim_some, RestoreRecord.bytes_of_stored hk, getD_set hk]
    simp only [hoff]
  · have hne : off' ≠ off := fun h => hm (by rw [h])
    rw [if_neg hm, if_neg hne]

/-- A stored byte reads back, and the other cells of the page read as before. -/
theorem Slot.cellByte_withByte {off off' : Nat} (h : NamedOffset off) (h' : CellOffset off') (sl : Slot) (v : Byte) :
    (sl.withByte off v).cellByte off' = if off' = off then cellReadBack off v else sl.cellByte off' := by
  unfold NamedOffset at h
  unfold CellOffset at h'
  unfold Slot.withByte
  split
  case isTrue =>
    have hback : cellReadBack off v = v := if_neg (by omega)
    have hk : off - 0x040 < sl.cells.bytes.length := by rw [sl.cells.length_bytes]; omega
    have hoff : off' < 0x0C0 → (off' - 0x040 = off - 0x040 ↔ off' = off) := by omega
    unfold Slot.cellByte
    split
    case isTrue h0 =>
      rw [SlotSettings.bytes_of_stored (by omega), getD_set hk, hback]
      simp only [hoff h0]
    case isFalse => exact (if_neg (by omega)).symm
  case isFalse =>
    split
    case isTrue =>
      have hback : cellReadBack off v = v := if_neg (by omega)
      have hk : off - 0x240 < sl.ctx.header.bytes.length := by rw [sl.ctx.header.length_bytes]; omega
      have hoff : ¬ off' < 0x0C0 → (off' - 0x240 = off - 0x240 ↔ off' = off) := by omega
      unfold Slot.cellByte
      split
      case isTrue => exact (if_neg (by omega)).symm
      case isFalse h0 =>
        split
        case isTrue =>
          rw [ContextHeader.bytes_of_stored (by omega), getD_set hk, hback]
          simp only [hoff h0]
        case isFalse => exact (if_neg (by omega)).symm
    case isFalse =>
      have hmask : (off - 0x260) % 16 = 1 ↔ 0x260 ≤ off ∧ off % 16 = 1 := by omega
      have hoff : ¬ off' < 0x260 → (off' - 0x260 = off - 0x260 ↔ off' = off) := by omega
      unfold Slot.cellByte
      split
      case isTrue => exact (if_neg (by omega)).symm
      case isFalse =>
        split
        case isTrue => exact (if_neg (by omega)).symm
        case isFalse h0 =>
          rw [recordByte_storeRecordByte (by omega)]
          unfold cellReadBack
          simp only [hoff h0, hmask]

/-- A byte stored changes nothing of a slot but its cells and its Restore Context. -/
theorem Slot.withByte_eq (sl : Slot) (off : Nat) (v : Byte) :
    sl.withByte off v = { sl with cells := (sl.withByte off v).cells, ctx := (sl.withByte off v).ctx } := by
  unfold Slot.withByte
  split
  · rfl
  · split <;> rfl

section
variable {s : State} {i : SlotId}

/-- R151: a byte of the cells of a slot page is stored. -/
theorem State.storePageByte_of_cell {off : Nat} (h : CellOffset off) (v : Byte) :
    s.storePageByte i off v = s.onSlot i fun sl => sl.withByte off v := by
  unfold CellOffset at h
  unfold State.storePageByte Slot.withByte
  rw [if_neg (by omega), if_neg (by omega), if_neg (by omega)]
  split
  · rfl
  · rw [if_neg (by omega), dif_neg (by omega)]
    split
    · rfl
    · rw [dif_pos (by omega)]
      unfold State.writeRecordByte storeRecordByte
      simp only [dif_pos (show off - 0x260 < 0x400 by omega)]
      rfl

/-- R151: a byte of a slot page that no layout names, or that only the controller writes, is discarded. -/
theorem State.storePageByte_of_discarded {off : Nat} (h : DiscardedOffset off) (v : Byte) :
    s.storePageByte i off v = s := by
  unfold DiscardedOffset at h
  by_cases hc : CellOffset off
  · rw [State.storePageByte_of_cell hc]
    refine State.onSlot_eq_self ?_
    unfold CellOffset at hc
    unfold Slot.withByte
    split
    · rw [SlotSettings.ofBytes_of_discarded (by omega)]
    · rw [if_pos (by omega), ContextHeader.ofBytes_of_discarded (by omega)]
  · unfold CellOffset at hc
    unfold State.storePageByte
    rw [if_neg (by omega)]
    split
    · exact if_neg (by omega)
    · split
      · rfl
      · rw [if_neg (by omega)]
        split
        · rfl
        · split
          · exact if_neg (by omega)
          · rw [if_neg (by omega), dif_neg (by omega)]

/-! ### The bytes of the window (R150) -/

/-- Nothing but cells of software differs between two states: Slot Settings, Restore Contexts and Device Settings cells. -/
structure CellsOnly (s t : State) : Prop where
  rest : t = { s with slots := t.slots, deviceCells := t.deviceCells }
  slot : ∀ j : SlotId, t.slots[j] = { s.slots[j] with cells := (t.slots[j]).cells, ctx := (t.slots[j]).ctx }

theorem CellsOnly.onSlot {off : Nat} (v : Byte) : CellsOnly s (s.onSlot i fun sl => sl.withByte off v) := by
  refine ⟨rfl, fun j => ?_⟩
  rw [State.onSlot_slots_get]
  split
  · next h =>
    subst h
    exact Slot.withByte_eq _ off v
  · rfl

section
variable {t : State}

theorem CellsOnly.statusBytes_eq (h : CellsOnly s t) (j : SlotId) : t.statusBytes j = s.statusBytes j := by
  obtain ⟨hrest, hslot⟩ := h
  have hq : t.queue = s.queue := by rw [hrest]
  have hp : t.plan = s.plan := by rw [hrest]
  unfold State.statusBytes State.phaseOf
  rw [hq, hp, hslot j]
  rfl

theorem pageByte_of_cell {off : Nat} (h : CellOffset off) (s : State) (j : SlotId) :
    s.pageByte j off = (s.slots[j]).cellByte off := by
  unfold CellOffset at h
  unfold State.pageByte Slot.cellByte
  dsimp only
  rw [if_neg (by omega), if_neg (by omega), if_neg (by omega)]
  split
  · rfl
  · rw [if_neg (by omega), if_neg (by omega)]
    split
    · rfl
    · rw [if_pos (by omega)]
      rfl

theorem CellsOnly.pageByte_of_not_cell {off : Nat} (h : CellsOnly s t) (hoff : ¬ CellOffset off) (j : SlotId) :
    t.pageByte j off = s.pageByte j off := by
  have hstatus := h.statusBytes_eq j
  have hslot := h.slot j
  unfold CellOffset at hoff
  unfold State.pageByte
  dsimp only
  rw [hstatus, hslot]
  split
  · rfl
  · split
    · rfl
    · split
      · rfl
      · have hsettings : ¬ off < 0x0C0 := by omega
        simp only [if_neg hsettings]
        split
        · rfl
        · split
          · rfl
          · have hcontext : ¬ off < 0x260 ∧ ¬ off < 0x660 := by omega
            simp only [if_neg hcontext.1, if_neg hcontext.2]

/-- R150: the window reads as before, but for the cells. -/
theorem CellsOnly.windowByte_eq (h : CellsOnly s t) {a : Nat}
    (hdevice : 0x0120 ≤ a → t.deviceCells.bytes.getD (a - 0x0120) 0 = s.deviceCells.bytes.getD (a - 0x0120) 0)
    (hcell : ∀ j off, pageOf a = some (j, off) → CellOffset off → (t.slots[j]).cellByte off = (s.slots[j]).cellByte off) :
    t.windowByte a = s.windowByte a := by
  have hrest := h.rest
  unfold State.windowByte
  split
  · unfold State.deviceByte
    by_cases ha : 0x0120 ≤ a
    · rw [hdevice ha, hrest]
      rfl
    · have hbelow : a < 0x0120 := by omega
      simp only [if_pos hbelow]
      rw [hrest]
      rfl
  · cases hp : pageOf a with
    | none => rfl
    | some p =>
      obtain ⟨j, off⟩ := p
      dsimp only
      by_cases hc : CellOffset off
      · rw [pageByte_of_cell hc, pageByte_of_cell hc, hcell j off hp hc]
      · exact h.pageByte_of_not_cell hc j

end

/-- The page and the offset in it that make a BAR offset. -/
theorem pageOf_eq_some {a : Nat} {j : SlotId} {off : Nat} :
    pageOf a = some (j, off) ↔ a = 0x1000 * (j.val + 1) + off ∧ off < 0x1000 := by
  have hj := j.isLt
  unfold pageOf
  split
  · rw [Option.some_inj, Prod.mk.injEq, Fin.ext_iff]
    dsimp only
    omega
  · constructor
    · intro h
      cases h
    · omega

theorem pageOf_of_inPage {a : Nat} (h : inPage a = true) : ∃ j, pageOf a = some (j, a % 0x1000) := by
  unfold inPage at h
  rw [Bool.and_eq_true, decide_eq_true_iff, decide_eq_true_iff] at h
  exact ⟨_, dif_pos h⟩

/-! ### A write of one byte (R150) -/

/-- Of the bytes of a one-byte write only the last is enabled. -/
theorem filterMap_zipIdx_of_last {β : Type} {f : Option Byte × Nat → Option β} (hf : ∀ k, f (none, k) = none) (n : Nat)
    (v : Byte) : (List.replicate n none ++ [some v]).zipIdx.filterMap f = (f (some v, n)).toList := by
  have hskip : (List.replicate n none).zipIdx.filterMap f = [] := by
    rw [List.filterMap_eq_nil_iff]
    rintro ⟨b, k⟩ hb
    have hnone : b = none := List.eq_of_mem_replicate (List.fst_mem_of_mem_zipIdx hb)
    rw [hnone]
    exact hf k
  rw [List.zipIdx_append, List.filterMap_append, hskip, List.length_replicate, Nat.zero_add, List.nil_append,
    List.zipIdx_singleton, List.filterMap_cons, List.filterMap_nil]
  cases f (some v, n) <;> rfl

theorem enabledOffsets_byteWrite (a : Nat) (v : Byte) :
    enabledOffsets (byteWrite a v) = if a < 0x10000 then [(a, v)] else [] := by
  refine (filterMap_zipIdx_of_last (fun _ => rfl) (a % 4) v).trans ?_
  show (if a - a % 4 + a % 4 < 0x10000 then some (a - a % 4 + a % 4, v) else none).toList = _
  rw [Nat.sub_add_cancel (Nat.mod_le a 4)]
  split <;> rfl

/-- R153: a write none of whose bytes falls in the Order Cell of a slot. -/
theorem touchesCell_cellWriteOf {ws : List (Nat × Byte)}
    (h : ∀ w ∈ ws, w.1 < 0x1000 + i.val * 0x1000 ∨ 0x1000 + i.val * 0x1000 + 16 ≤ w.1) :
    touchesCell (cellWriteOf ws i) = false := by
  have hnone : ∀ off, off < 16 → ws.find? (fun w => w.1 == 0x1000 + i.val * 0x1000 + off) = none := by
    intro off hoff
    rw [List.find?_eq_none]
    intro w hw
    have := h w hw
    rw [beq_iff_eq]
    omega
  have hother : (ws.any fun w => decide (0x1000 + i.val * 0x1000 + 5 ≤ w.1) && decide (w.1 < 0x1000 + i.val * 0x1000 + 16)) =
      false := by
    rw [List.any_eq_false]
    intro w hw
    have := h w hw
    rw [Bool.and_eq_true, decide_eq_true_iff, decide_eq_true_iff]
    omega
  unfold touchesCell cellWriteOf
  dsimp only
  rw [hnone 0 (by decide), hnone 1 (by decide), hnone 2 (by decide), hnone 3 (by decide), hnone 4 (by decide), hother]
  rfl

/-- R150: a byte outside the Order Cells and DEVICE_CONTROL is stored, and nothing follows. -/
theorem State.writeWindow_byteWrite {a : Nat} (hcontrol : a ≠ 0x00C) (hcell : inPage a = true → 16 ≤ a % 0x1000) (v : Byte) :
    s.writeWindow (byteWrite a v) = s.storeByte a v := by
  have hstored : (enabledOffsets (byteWrite a v)).foldl (fun s w => s.storeByte w.1 w.2) s = s.storeByte a v := by
    rw [enabledOffsets_byteWrite]
    split
    · rfl
    · unfold State.storeByte pageOf
      rw [if_neg (by omega), dif_neg (by omega)]
      rfl
  have hmem : ∀ w ∈ enabledOffsets (byteWrite a v), w.1 = a := by
    intro w hw
    rw [enabledOffsets_byteWrite] at hw
    split at hw
    · rw [List.mem_singleton.mp hw]
    · exact absurd hw List.not_mem_nil
  have hno : (enabledOffsets (byteWrite a v)).find? (fun w => w.1 == 0x000C) = none := by
    rw [List.find?_eq_none]
    intro w hw
    rw [hmem w hw, beq_iff_eq]
    exact hcontrol
  have huntouched : ∀ (u : State) (j : SlotId), u.writeOrderCell j (cellWriteOf (enabledOffsets (byteWrite a v)) j) = u := by
    intro u j
    refine writeOrderCell_of_untouched u j _ (touchesCell_cellWriteOf fun w hw => ?_)
    have hj := j.isLt
    unfold inPage at hcell
    rw [Bool.and_eq_true, decide_eq_true_iff, decide_eq_true_iff] at hcell
    rw [hmem w hw]
    omega
  unfold State.writeWindow State.deviceControlOf
  dsimp only
  rw [hstored, hno]
  exact List.foldl_fixed' (huntouched _) _

/-! ### Where a byte is stored and where it is discarded (R150 to R152) -/

theorem storedCell_iff (a : Nat) :
    storedCell a = true ↔ (0x120 ≤ a ∧ a < 0x126) ∨ (inPage a = true ∧ NamedOffset (a % 0x1000)) := by
  unfold storedCell NamedOffset
  simp only [Bool.or_eq_true, Bool.and_eq_true, decide_eq_true_iff, bne_iff_ne, beq_iff_eq, ne_eq, or_assoc, and_assoc]

theorem discardedCell_iff (a : Nat) : discardedCell a = true ↔
    (0x008 ≤ a ∧ a < 0x1000 ∧ a ≠ 0x00C ∧ ¬ (0x120 ≤ a ∧ a < 0x126)) ∨ 0x9000 ≤ a ∨
      (inPage a = true ∧ DiscardedOffset (a % 0x1000)) := by
  unfold discardedCell DiscardedOffset
  simp only [Bool.or_eq_true, Bool.and_eq_true, Bool.not_eq_true', Bool.and_eq_false_iff, decide_eq_true_iff,
    decide_eq_false_iff_not, bne_iff_ne, beq_iff_eq, ne_eq, or_assoc, and_assoc, not_and_or]

theorem inPage_iff (a : Nat) : inPage a = true ↔ 0x1000 ≤ a ∧ a < 0x9000 := by
  rw [inPage, Bool.and_eq_true, decide_eq_true_iff, decide_eq_true_iff]

/-- R150: a byte of a slot page is stored by the rule of the page. -/
theorem State.storeByte_of_page {a off : Nat} (h : pageOf a = some (i, off)) (v : Byte) :
    s.storeByte a v = s.storePageByte i off v := by
  have ha := (pageOf_eq_some.mp h).1
  unfold State.storeByte
  rw [if_neg (by omega), h]

theorem State.storeByte_of_discarded {a : Nat} (h : discardedCell a = true) (s : State) (v : Byte) :
    s.storeByte a v = s := by
  rcases (discardedCell_iff a).mp h with hdevice | habove | ⟨hin, hoff⟩
  · unfold State.storeByte State.storeDeviceByte
    rw [if_pos (by omega), if_neg (by omega), if_neg (by omega), if_neg (by omega)]
  · unfold State.storeByte pageOf
    rw [if_neg (by omega), dif_neg (by omega)]
  · obtain ⟨j, hj⟩ := pageOf_of_inPage hin
    rw [State.storeByte_of_page hj, State.storePageByte_of_discarded hoff]

/-- What a byte of the cells of a slot page reads as. -/
theorem State.windowByte_of_cell {a off : Nat} (h : pageOf a = some (i, off)) (hc : CellOffset off) (s : State) :
    s.windowByte a = (s.slots[i]).cellByte off := by
  have ha := (pageOf_eq_some.mp h).1
  unfold State.windowByte
  rw [if_neg (by omega), h]
  exact pageByte_of_cell hc s i

/-- What a byte of the Device Settings cells reads as. -/
theorem State.windowByte_of_device {a : Nat} (h : 0x120 ≤ a ∧ a < 0x126) (s : State) :
    s.windowByte a = s.deviceCells.bytes.getD (a - 0x120) 0 := by
  unfold State.windowByte State.deviceByte
  rw [if_pos (by omega), if_neg (by omega), if_neg (by omega), if_neg (by omega), if_neg (by omega), if_neg (by omega),
    if_pos (by omega)]

/-! ### What a stored byte changes (R150, R151) -/

/-- A byte stored in a slot page reads back, and every other byte of the window reads as before. -/
theorem windowByte_of_stored_cell {a off : Nat} (hp : pageOf a = some (i, off)) (h : NamedOffset off) (v : Byte) (a' : Nat) :
    (s.onSlot i fun sl => sl.withByte off v).windowByte a' = if a' = a then readBack a v else s.windowByte a' := by
  have hslot : ∀ j : SlotId, (s.onSlot i fun sl => sl.withByte off v).slots[j] =
      if j = i then (s.slots[j]).withByte off v else s.slots[j] := fun j => s.onSlot_slots_get i j _
  obtain ⟨ha, hoff⟩ := pageOf_eq_some.mp hp
  have hi := i.isLt
  split
  case isTrue hsame =>
    have hmod : a % 0x1000 = off := by omega
    have hback : readBack a v = cellReadBack off v := by
      unfold readBack cellReadBack
      dsimp only
      rw [hmod]
      exact if_congr (and_iff_right ((inPage_iff a).mpr (by omega))) rfl rfl
    rw [hsame, hback, State.windowByte_of_cell hp h.cellOffset, hslot, if_pos rfl, Slot.cellByte_withByte h h.cellOffset,
      if_pos rfl]
  case isFalse hother =>
    refine (CellsOnly.onSlot v).windowByte_eq (fun _ => rfl) fun j off' hp' hc => ?_
    rw [hslot]
    split
    case isTrue hj =>
      have hne : off' ≠ off := by
        rintro rfl
        rw [(pageOf_eq_some.mp hp').1, ha, hj] at hother
        exact hother rfl
      rw [Slot.cellByte_withByte h hc, if_neg hne]
    case isFalse => rfl

/-- The state with one byte of the Device Settings cells stored. -/
def State.withDeviceByte (s : State) (k : Nat) (v : Byte) : State :=
  { s with deviceCells := DeviceSettings.ofBytes (s.deviceCells.bytes.set k v) }

@[simp] theorem State.withDeviceByte_slots (s : State) (k : Nat) (v : Byte) : (s.withDeviceByte k v).slots = s.slots := rfl

theorem CellsOnly.withDeviceByte (k : Nat) (v : Byte) : CellsOnly s (s.withDeviceByte k v) := ⟨rfl, fun _ => rfl⟩

/-- A byte stored in the Device Settings cells reads back, and every other byte of the window reads as before. -/
theorem windowByte_of_stored_device {a : Nat} (h : 0x120 ≤ a ∧ a < 0x126) (v : Byte) (a' : Nat) :
    (s.withDeviceByte (a - 0x120) v).windowByte a' = if a' = a then readBack a v else s.windowByte a' := by
  have hk : a - 0x120 < s.deviceCells.bytes.length := by rw [s.deviceCells.length_bytes]; omega
  have hbytes : ∀ j, (s.withDeviceByte (a - 0x120) v).deviceCells.bytes.getD j 0 =
      if j = a - 0x120 then v else s.deviceCells.bytes.getD j 0 := by
    intro j
    unfold State.withDeviceByte
    rw [DeviceSettings.bytes_ofBytes ((List.length_set ..).trans s.deviceCells.length_bytes), getD_set hk]
  split
  case isTrue hsame =>
    have hback : readBack a v = v := by
      refine if_neg fun hin => ?_
      have := (inPage_iff a).mp hin.1
      omega
    rw [hsame, hback, State.windowByte_of_device h, hbytes, if_pos rfl]
  case isFalse hother =>
    refine (CellsOnly.withDeviceByte _ v).windowByte_eq (fun ha' => ?_) fun _ _ _ _ => by rw [State.withDeviceByte_slots]
    rw [hbytes, if_neg (by omega)]

/-- R150: the outcome of a write of one byte that is stored. -/
theorem exec_byteWrite_of_stored {t : State} {a : Nat} {v : Byte} (hcontrol : a ≠ 0x00C)
    (hcell : inPage a = true → 16 ≤ a % 0x1000) (hstored : s.storeByte a v = t) (ht : CellsOnly s t)
    (hread : ∀ a', t.windowByte a' = if a' = a then readBack a v else s.windowByte a') :
    ∃ t, exec (.swaWrite (byteWrite a v)) s = .next t ∧ t.windowByte a = readBack a v ∧
      (∀ a' : Nat, a' ≠ a → t.windowByte a' = s.windowByte a') ∧
      t = { s with slots := t.slots, deviceCells := t.deviceCells } ∧
      ∀ i : SlotId, t.slots[i] = { s.slots[i] with cells := (t.slots[i]).cells, ctx := (t.slots[i]).ctx } := by
  obtain ⟨hrest, hslots⟩ := ht
  refine ⟨t, ?_, (hread a).trans (if_pos rfl), fun a' ha' => (hread a').trans (if_neg ha'), hrest, hslots⟩
  exact event_next_of_kept (f := fun s => s.writeWindow (byteWrite a v))
    ((State.writeWindow_byteWrite hcontrol hcell v).trans hstored) (by rw [hrest]) (by rw [hrest])

/-- Settles O10: a byte of a software cell is stored there and nowhere else, and a byte that the map discards changes
nothing. -/
theorem windowWrites : Obligations.WindowWrites := by
  intro a v s
  refine ⟨fun h => ?stored, fun h => ?discarded⟩
  case stored =>
    rcases (storedCell_iff a).mp h with hdevice | ⟨hin, hoff⟩
    · refine exec_byteWrite_of_stored (by omega) (fun hin => ?_) ?_ (CellsOnly.withDeviceByte (a - 0x120) v)
        (windowByte_of_stored_device hdevice v)
      · have := (inPage_iff a).mp hin
        omega
      · unfold State.storeByte State.storeDeviceByte
        rw [if_pos (by omega), if_neg (by omega), if_neg (by omega), if_pos (by omega)]
        rfl
    · obtain ⟨j, hj⟩ := pageOf_of_inPage hin
      have hpage := (inPage_iff a).mp hin
      refine exec_byteWrite_of_stored (by omega) (fun _ => ?_)
        ((State.storeByte_of_page hj v).trans (State.storePageByte_of_cell hoff.cellOffset v)) (CellsOnly.onSlot v)
        (windowByte_of_stored_cell hj hoff v)
      unfold NamedOffset at hoff
      omega
  case discarded =>
    refine event_next_self s (f := fun s => s.writeWindow (byteWrite a v))
      ((State.writeWindow_byteWrite ?_ (fun hin => ?_) v).trans (State.storeByte_of_discarded h s v))
    · rcases (discardedCell_iff a).mp h with ⟨-, -, hne, -⟩ | habove | ⟨hin, -⟩
      · exact hne
      · omega
      · have := (inPage_iff a).mp hin
        omega
    · have hpage := (inPage_iff a).mp hin
      rcases (discardedCell_iff a).mp h with hdevice | habove | ⟨-, hoff⟩
      · omega
      · omega
      · unfold DiscardedOffset at hoff
        omega

end

end Sys2Proof.Machine

/-! PROOF. Software writes to ATTN and ATTN_ENABLE (R167, R169): the bits that the enabled bytes of the write clear or store,
and the interrupt message. -/

namespace Sys2Proof.Machine

open Sys2Proof

section

/-! ### The bits of a register write -/

/-- A bit of a word, read in the byte that holds it. -/
theorem getLsbD_extractLsb'_byte {w : Nat} (x : BitVec w) (b : Nat) :
    (x.extractLsb' (8 * (b / 8)) 8).getLsbD (b % 8) = x.getLsbD b := by
  rw [BitVec.getLsbD_extractLsb', Nat.div_add_mod, decide_eq_true (Nat.mod_lt b (by decide)), Bool.true_and]

/-- A register write takes the bits of the enabled bytes and keeps the others. -/
theorem getLsbD_enabledBytes (old value : Dword) (enables : BitVec 4) {b : Nat} (hb : b < 32) :
    (enabledBytes old value enables).getLsbD b =
      if enables.getLsbD (b / 8) = true then value.getLsbD b else old.getLsbD b := by
  have hbyte := extractLsb'_mergeBytes old value enables ⟨b / 8, by omega⟩
  rw [← getLsbD_extractLsb'_byte (enabledBytes old value enables) b, enabledBytes, hbyte]
  split
  case isTrue => exact getLsbD_extractLsb'_byte value b
  case isFalse => exact getLsbD_extractLsb'_byte old b

/-- R167: a write to ATTN clears the bits that its enabled bytes set to 1. -/
theorem State.writeAttn_getLsbD (s : State) (enables : BitVec 4) (value : Dword) {b : Nat} (hb : b < 24) :
    (s.writeAttn enables value).attn.getLsbD b =
      (s.attn.getLsbD b && !(enables.getLsbD (b / 8) && value.getLsbD b)) := by
  have hbit := getLsbD_enabledBytes 0 value enables (show b < 32 by omega)
  unfold State.writeAttn
  simp only [BitVec.getLsbD_and, BitVec.getLsbD_not, BitVec.getLsbD_setWidth, hb, decide_true, Bool.true_and, hbit]
  cases enables.getLsbD (b / 8) <;> simp

/-- R169: a write to ATTN_ENABLE stores the bits of its enabled bytes. -/
theorem State.writeAttnEnable_getLsbD (s : State) (enables : BitVec 4) (value : Dword) {b : Nat} (hb : b < 24) :
    (s.writeAttnEnable enables value).attnEnable.getLsbD b =
      if enables.getLsbD (b / 8) = true then value.getLsbD b else s.attnEnable.getLsbD b := by
  have hbit := getLsbD_enabledBytes (s.attnEnable.setWidth 32) value enables (show b < 32 by omega)
  unfold State.writeAttnEnable
  simp only [BitVec.getLsbD_setWidth, hb, show b < 32 by omega, decide_true, Bool.true_and, hbit]

/-! ### The interrupt message (R169) -/

/-- R169: an event that only clears bits of ATTN does not fill the pending set, and sends no interrupt message. -/
theorem withInterrupt_of_attn_cleared {s t : State} {kept : BitVec 24} (ha : t.attn = s.attn &&& kept)
    (he : t.attnEnable = s.attnEnable) : withInterrupt s t = t := by
  have hempty (h : s.attn &&& s.attnEnable = 0) : t.attn &&& t.attnEnable = 0 := by
    rw [ha, he, BitVec.and_assoc, BitVec.and_comm kept, ← BitVec.and_assoc, h]
    exact BitVec.zero_and
  have hsent : interruptSent s t = [] := by
    unfold interruptSent
    exact if_neg fun ⟨hbefore, hafter, _⟩ => hafter (hempty hbefore)
  unfold withInterrupt
  rw [hsent, List.append_nil]

/-- R167: the outcome of a write to ATTN. -/
theorem exec_attnWrite (enables : BitVec 4) (value : Dword) (s : State) :
    exec (.attnWrite enables value) s = .next (s.writeAttn enables value) :=
  (event_eq (fun s => s.writeAttn enables value) s).trans (congrArg _ (withInterrupt_of_attn_cleared rfl rfl))

/-- R169: the outcome of a write to ATTN_ENABLE. -/
theorem exec_attnEnableWrite (enables : BitVec 4) (value : Dword) (s : State) :
    exec (.attnEnableWrite enables value) s = .next (withInterrupt s (s.writeAttnEnable enables value)) :=
  event_eq (fun s => s.writeAttnEnable enables value) s

/-- Settles O7: a write to ATTN can only empty the pending set, so that it sends nothing; a write to ATTN_ENABLE can fill
it. Which bits change is read off byte by byte. -/
theorem frontRegisterWrites : Obligations.FrontRegisterWrites := by
  intro enables value s
  refine ⟨⟨_, exec_attnWrite enables value s, ?frame, ?cleared⟩, ⟨_, exec_attnEnableWrite enables value s, ?stored⟩⟩
  case frame => rfl
  case cleared => exact fun b hb => s.writeAttn_getLsbD enables value hb
  case stored => exact fun b hb => s.writeAttnEnable_getLsbD enables value hb

end

end Sys2Proof.Machine

/-! PROOF. A step on a queue that is not empty: the branch of `step` besides `step_of_due` and `step_of_none_due`. -/

namespace Sys2Proof.Machine

open Sys2Proof

theorem step_of_pending {c : Instr} {rest : List Instr} {s : State} (hq : s.pending = c :: rest) :
    step s = exec c { s with pending := rest } := by
  unfold step
  rw [hq]

/-- Settles O1: the match of `step` looks at the queue before anything is asked about due events or the time. -/
theorem stepTakesTheFrontCommand : Obligations.StepTakesTheFrontCommand := fun _ _ _ hq => step_of_pending hq

end Sys2Proof.Machine
